-- ==== Sys2Proof/Word.lean ====
section
/-! DEFINITION. Word types of the GW340: memory words, link bytes, timebase values, motor counts. -/

namespace Sys2Proof

/-- A 16-bit word of exchange memory, of the register window or of the port's D lines (R160). -/
abbrev Word := BitVec 16

/-- A byte of an axis link frame (R97). -/
abbrev Byte := BitVec 8

/-- A timebase value, or a span of microseconds (R180). -/
abbrev Time := BitVec 32

/-- A motor position: signed 24-bit counts (Introduction, "Number formats"). -/
abbrev Counts := BitVec 24

end Sys2Proof
end

