-- ==== Sys2Proof/Syntax.lean ====
section
/-! DEFINITION. The commands of the GW340, one constructor per row of spec/opcode_table.json, and the
names their operands use. -/

namespace Sys2Proof

/-- The three lens axes (Introduction, "Terms"). -/
inductive Axis where
  | focus
  | iris
  | zoom
deriving DecidableEq, Repr

/-- The level of a wire or input. On AXL, `low` is dominant and `high` recessive (chapter 5). -/
inductive Level where
  | low
  | high
deriving DecidableEq, Repr

/-- The three ways a received frame is judged FRAMING while it is being read (R98, R105). -/
inductive FramingCause where
  /-- the LEAD is not three dominant bit middles and a recessive one -/
  | invalidLead
  /-- the header's kind is 10 or 11 -/
  | unusedKind (header : Byte)
  /-- a dominant level at a bound position, END-OF-FRAME included -/
  | boundDominant
deriving DecidableEq, Repr

/-- The time that passes before a command, in microseconds, cut at every edge that other nodes make on AXL:
`[7]` is 7 µs without an edge, `[3, 4]` has one edge 3 µs in, `[]` is no time (DESIGN CHOICE, log 1, 18). -/
abbrev Span := List Time

/-- The commands. `dt` is the time since the command before, with the edges of AXL in it (DESIGN CHOICE,
log 1, 18). The other operands are what the rule of the row says the outside supplies or, for REPLY_RECEIVED,
RECEIVED_FRAME_FRAMING, NOTE_RECEIVED, BREAK_RECOGNISED and SENT_BREAK_RELEASE, what AXL shows: with any other
the event is not due (DESIGN CHOICE, log 42). -/
inductive Instr where
  /-- RESETN_ASSERT, R181 -/
  | resetnAssert (dt : Span)
  /-- RESETN_RELEASE, R181 -/
  | resetnRelease (dt : Span)
  /-- MEMORY_CLEAR_DONE, R172 -/
  | memoryClearDone (dt : Span)
  /-- CLEARING_END, R182 -/
  | clearingEnd (dt : Span)
  /-- RUN, R184: the word written to CONTROL -/
  | run (dt : Span) (value : Word)
  /-- HALT, R185: the word written to CONTROL -/
  | halt (dt : Span) (value : Word)
  /-- SRESET, R186: the word written to CONTROL -/
  | sreset (dt : Span) (value : Word)
  /-- CAUSES_WRITE, R188 -/
  | causesWrite (dt : Span) (value : Word)
  /-- ENABLES_WRITE, R189 -/
  | enablesWrite (dt : Span) (value : Word)
  /-- TB_LO_READ, R191 -/
  | tbLoRead (dt : Span)
  /-- REGISTER_WRITE_IGNORED, R170: address on A and word on D -/
  | registerWriteIgnored (dt : Span) (addr : BitVec 15) (value : Word)
  /-- PORT_MEMORY_READ, R168 -/
  | portMemoryRead (dt : Span) (addr : BitVec 15)
  /-- PORT_MEMORY_WRITE, R169 -/
  | portMemoryWrite (dt : Span) (addr : BitVec 15) (data : Word)
  /-- PORT_STROBE_END, R169 -/
  | portStrobeEnd (dt : Span)
  /-- MEMORY_ACCESS_COMPLETE, R163 -/
  | memoryAccessComplete (dt : Span)
  /-- FRAME_START, R1: how long FRAME has been high when the edge is recognised, 1 µs or, for a short pulse, 0 -/
  | frameStart (dt : Span) (highFor : Time)
  /-- BAND_RELEASE, R6 -/
  | bandRelease (dt : Span)
  /-- BAND_COMPUTE_END, R8 -/
  | bandComputeEnd (dt : Span)
  /-- FRAME_WATCHDOG_EXPIRY, R17 -/
  | frameWatchdogExpiry (dt : Span)
  /-- SLOT_OPEN, R146 -/
  | slotOpen (dt : Span)
  /-- BAND_RECORD_WRITE, R148 -/
  | bandRecordWrite (dt : Span)
  /-- RECORD_WRITTEN, R10 -/
  | recordWritten (dt : Span)
  /-- SLOT_CLOSE, R152 -/
  | slotClose (dt : Span)
  /-- EXAMINATION_BEGIN, R126 -/
  | examinationBegin (dt : Span)
  /-- PAGE_COPY_DONE, R127 -/
  | pageCopyDone (dt : Span)
  /-- PROFILE_HEADER_FETCHED, R79 -/
  | profileHeaderFetched (dt : Span)
  /-- PROFILE_BODY_FETCHED, R80 -/
  | profileBodyFetched (dt : Span)
  /-- MOUNT_SAMPLE, R90: the level of LENS -/
  | mountSample (dt : Span) (lens : Level)
  /-- BLANKING_EXPIRY, R31 -/
  | blankingExpiry (dt : Span) (axis : Axis)
  /-- MARK_TICK, R110 -/
  | markTick (dt : Span)
  /-- END_OF_DATA, R103 -/
  | endOfData (dt : Span)
  /-- REPLY_WINDOW_CLOSE, R104 -/
  | replyWindowClose (dt : Span)
  /-- REPLY_RECEIVED, R105: the position bytes, the status byte and the reply CHECK as read -/
  | replyReceived (dt : Span) (p2 p1 p0 status check : Byte)
  /-- TRANSACTION_END, R106 -/
  | transactionEnd (dt : Span)
  /-- LOST_ARBITRATION, R101 -/
  | lostArbitration (dt : Span)
  /-- BIT_FAULT, R102 -/
  | bitFault (dt : Span)
  /-- RECEIVED_FRAME_FRAMING, R98 -/
  | receivedFrameFraming (dt : Span) (cause : FramingCause)
  /-- NOTE_RECEIVED, R107: header, data bytes and CHECK as read -/
  | noteReceived (dt : Span) (header : Byte) (data : List Byte) (check : Byte)
  /-- BREAK_RECOGNISED, R114: the measure of the dominant level, in microseconds -/
  | breakRecognised (dt : Span) (held : Time)
  /-- SENT_BREAK_RELEASE, R116: the level of AXL once the part has released it -/
  | sentBreakRelease (dt : Span) (wire : Level)
  /-- SENSED_BREAK_END, R115 -/
  | sensedBreakEnd (dt : Span)
  /-- LINK_FREE_AFTER_BREAK, R115 -/
  | linkFreeAfterBreak (dt : Span)
  /-- STUCK, R118 -/
  | stuck (dt : Span)
  /-- STUCK_END, R119 -/
  | stuckEnd (dt : Span)
  /-- WORD_DISTURBED, R160: the cell and the data bits the disturbance leaves in it -/
  | wordDisturbed (dt : Span) (addr : BitVec 15) (data : Word)
  /-- RECEIVED_FRAME_BEGIN, R98 -/
  | receivedFrameBegin (dt : Span)
  /-- RECEIVED_FRAME_END, R108 -/
  | receivedFrameEnd (dt : Span)
deriving DecidableEq, Repr

end Sys2Proof
end

