-- ==== Sys2Proof/Decode.lean ====
section
/-! DEFINITION. The commands a word of spec/opcode_table.json spells. No row of the table gives bits:
the GW340 takes events and port accesses, and no command is encoded in a word (DEDUCED, log 36). -/

namespace Sys2Proof

/-- The command that the word `w` of `nbits` bits spells by the table's bits: none, since no row has any. -/
def decodeTableWord (_nbits _w : Nat) : Option Instr := none

end Sys2Proof
end

