-- ==== Sys2Proof/Config.lean ====
section
/-! DEFINITION. Fixed numbers of the GW340 and the one value the book leaves open. -/

namespace Sys2Proof

/-- A stored word of exchange memory: 16 data bits and the parity bit beside them (R160). -/
structure Machine.Stored where
  data : Word
  parity : Bool
deriving DecidableEq, Repr, Inhabited

namespace Config

/-- Words of exchange memory, addresses 0x0000 to 0x7FFF (R160). -/
def memoryWords : Nat := 32768

/-- What the Profile Loader gets from a fetch past word 0x7FFF, at a time and an address. The book
has no word there and states no value, so this constant has no body (DESIGN CHOICE, log 9). -/
opaque beyondMemory : Time → Nat → Machine.Stored

/-- What IDENT reads (R179). -/
def ident : Word := 0x3410

/-- Lowest word of the free area, where the ring and the profile may lie (R131, R174). -/
def freeArea : Nat := 0x0500

/-- First word of settings page A or B, by the selector value 1 or 2 (R124). -/
def pageBase (selector : Nat) : Nat := if selector = 1 then 0x0100 else 0x0300

/-- Words of a settings page (R124). -/
def pageWords : Nat := 512

/-- Timebase value of the first mount sample after a hard reset (R94). -/
def firstMountSample : Time := 4000

/-- Mount sample period, in microseconds, while no settings are in force (R90). -/
def defaultMountPeriod : Nat := 4000

/-- The identity scale 1.0 in Q2.22, and the least SX or SY (R63, R70). -/
def unityScale : Int := 4194304

/-- Words the memory clear writes in a microsecond, one per period of the 24 MHz SYSCLK (R182). -/
def clearedPerMicrosecond : Nat := 24

end Config
end Sys2Proof
end

