-- ==== Sys2Proof/Machine/Arith.lean ====
section
/-! DEFINITION. Arithmetic of the book's conventions: timebase comparison by signed difference, rounding
with halves away from zero, words of wider fields. -/

namespace Sys2Proof.Machine

/-- `t1` is later than `t0`: their signed 32-bit difference is positive (Introduction, "Time"). -/
def later (t1 t0 : Time) : Bool := decide (0 < (t1 - t0).toInt)

/-- The timebase value `now` has reached `due`: the signed difference is zero or positive (R6, R31, R90). -/
def reached (now due : Time) : Bool := decide (0 ≤ (now - due).toInt)

/-- A span of `n` bit times of `tau` microseconds, as a timebase difference (R96, R97). -/
def bitTimes (tau n : Nat) : Time := BitVec.ofNat 32 (n * tau)

/-- A number of microseconds as a timebase difference. -/
def micros (n : Nat) : Time := BitVec.ofNat 32 n

/-- `n / d` rounded to the nearest integer, halves away from zero, for a positive `d`
(Introduction, "Rounding"). -/
def roundDiv (n d : Int) : Int :=
  if 0 ≤ n then (2 * n + d) / (2 * d) else -((2 * (-n) + d) / (2 * d))

/-- `roundDiv` for a divisor of either sign, as a falling map needs it (R54). -/
def roundQuot (n d : Int) : Int := if d < 0 then roundDiv (-n) (-d) else roundDiv n d

/-- A value held within a lower and an upper bound; the lower bound is applied first (R50, R63, R64). -/
def clamp (lo hi x : Int) : Int := if x < lo then lo else if hi < x then hi else x

/-- High and low word of a 32-bit field; it is stored high word first (R165). -/
def hiWord (v : BitVec 32) : Word := v.extractLsb' 16 16
def loWord (v : BitVec 32) : Word := v.extractLsb' 0 16

/-- A number as a 16-bit word; a signed one in two's complement. -/
def natWord (n : Nat) : Word := BitVec.ofNat 16 n
def intWord (i : Int) : Word := BitVec.ofInt 16 i

/-- The element of a list at an index, 0 past its end. -/
def nth (xs : List Nat) (i : Nat) : Nat := xs.getD i 0

/-- The word of a list at an index, 0 past its end. -/
def nthWord (xs : List Word) (i : Nat) : Word := xs.getD i 0

/-- Two spans of word addresses, each given by its first word and its length, share a word. -/
def spansShare (a la b lb : Nat) : Bool := decide (a < b + lb ∧ b < a + la)

end Sys2Proof.Machine
end

