-- ==== Sys2Proof/Machine/State.lean ====
section
/-! DEFINITION. The state of the GW340: one structure per block, the queue of commands, the state after
a hard reset. -/

namespace Sys2Proof.Machine

/-- Reasons a step can stop with a fault. The block has no exceptions and never stops: every failure the
book names is data (INVENTORY.md, "Faults"), so this type has no values and nothing raises one. -/
inductive Fault where
deriving DecidableEq, Repr

/-- Reasons a step can be refused. -/
inductive Refusal where
  /-- Raised by no arm: every command has its meaning. It would be safe, since a refusal only stops. -/
  | notModelled (mnemonic : String)
deriving DecidableEq, Repr

/-! ## Codes -/

/-- Part states, in the order of their codes (R174). -/
inductive PartState where
  | clearing | halted | armed | running | frameless
deriving DecidableEq, Repr

/-- Profile states, in the order of their codes (R174). -/
inductive ProfileState where
  | empty | loading | ready | unbound | faulted
deriving DecidableEq, Repr

/-- Fault reasons of a load, in the order of their codes (R174). -/
inductive FaultReason where
  | none | parity | layout | serial | shape | range | check
deriving DecidableEq, Repr

/-- Axis states, in the order of their codes (R174). -/
inductive AxisState where
  | idle | fixed | seeking | qualifying | live | stale | lost
deriving DecidableEq, Repr

/-- Completion codes, in the order of their codes (R174). -/
inductive Completion where
  | none | ok | noReply | checkFault | framing | bitFault | lostArb | broken | skipped
deriving DecidableEq, Repr

/-- Link states, in the order of their codes (R174). -/
inductive LinkState where
  | off | idle | sending | awaitReply | receiving | breakTx | breakRx | stuck
deriving DecidableEq, Repr

/-- Codes of a NOTE, in the order of their codes (R35, R174). -/
inductive NoteCode where
  | none | endstop | fault | rezero
deriving DecidableEq, Repr

/-- Mount states (R91). -/
inductive Mount where
  | absent | present
deriving DecidableEq, Repr

/-- Axis modes, in the order of their settings values (R130). -/
inductive AxisMode where
  | off | track | fixed
deriving DecidableEq, Repr

/-- Link rates, in the order of their settings values (R129). -/
inductive LinkRate where
  | slow | fast
deriving DecidableEq, Repr

/-- The eleven causes, in the order of their bits (R179). -/
inductive Cause where
  | frame | adopt | refuse | profile | pfault | lens | axis | frameloss | overrun | parity | stuck
deriving DecidableEq, Repr

/-! ## Settings (R129, R130) -/

/-- One axis block of a settings page. `points` holds the first MAP_POINTS points of the map. -/
structure AxisSettings where
  mode : AxisMode
  unit : Nat
  fixedCoord : Nat
  qualify : Nat
  staleMisses : Nat
  lostMisses : Nat
  average : Nat
  points : List (Int × Nat)
deriving DecidableEq, Repr

/-- The fields of a settings page that act on the part. -/
structure Settings where
  rows : Nat
  bands : Nat
  lineTime : Nat
  readoutOffset : Nat
  exposure : Nat
  releaseLead : Nat
  frameTimeout : Nat
  ringBase : Nat
  ringSlots : Nat
  profileBase : Nat
  profileSerial : BitVec 32
  profileReload : Bool
  breathingOn : Bool
  shadingOn : Bool
  lockCoord : Nat
  headroom : Nat
  scaleMax : Nat
  shiftMax : Nat
  shadingStrength : Nat
  gainMax : Nat
  extrapLimit : Nat
  warnStretch : Nat
  mountPeriod : Nat
  linkRate : LinkRate
  markPeriod : Nat
  linkLatency : Nat
  blankTime : Nat
  /-- eight slots, each none or an axis -/
  schedule : List (Option Axis)
  focus : AxisSettings
  iris : AxisSettings
  zoom : AxisSettings
deriving DecidableEq, Repr

/-- The block of one axis. -/
def Settings.axis (c : Settings) : Axis → AxisSettings
  | .focus => c.focus
  | .iris => c.iris
  | .zoom => c.zoom

/-- Settings with the page and sequence they came from (R136, R137). -/
structure Adopted where
  page : Word
  seq : Word
  settings : Settings
deriving DecidableEq, Repr

/-! ## Timebase -/

/-- The timebase and the level of RESETn (R180, R181). -/
structure Clock where
  tb : Time
  /-- RESETn is high -/
  resetn : Bool
deriving DecidableEq, Repr

/-! ## Axis Tracker -/

/-- A sample of a track (section 2.1). -/
structure Sample where
  time : Time
  pos : Counts
deriving DecidableEq, Repr

/-- Blanking of an axis (section 2.1). -/
inductive Blanking where
  | notBlanking
  /-- BLANKING, the expiry pending until a break ends, with the BLANK_TIME, in milliseconds, that was in force
  when the period began (R24, R30; DEDUCED, log 39) -/
  | pending (blankTime : Nat)
  /-- BLANKING, the expiry set -/
  | until (expiry : Time)
deriving DecidableEq, Repr

/-- The record of one axis (section 2.1); its mode and unit are those of the settings in force (R22).
The track is listed oldest first. -/
structure AxisRec where
  st : AxisState
  track : List Sample
  misses : Nat
  good : Nat
  blanking : Blanking
  unitStatus : Byte
  lastCompletion : Completion
  lastNote : NoteCode
  lastPos : Counts
deriving DecidableEq, Repr

/-- The record of an axis in IDLE, and of every axis after a reset (R22, R43). -/
def AxisRec.idle : AxisRec :=
  { st := .idle, track := [], misses := 0, good := 0, blanking := .notBlanking, unitStatus := 0,
    lastCompletion := .none, lastNote := .none, lastPos := 0 }

/-- The three axis records. -/
structure Axes where
  focus : AxisRec
  iris : AxisRec
  zoom : AxisRec
deriving DecidableEq, Repr

/-- The record of one axis. -/
def Axes.get (a : Axes) : Axis → AxisRec
  | .focus => a.focus
  | .iris => a.iris
  | .zoom => a.zoom

/-- The records with one replaced. -/
def Axes.set (a : Axes) (x : Axis) (r : AxisRec) : Axes :=
  match x with
  | .focus => { a with focus := r }
  | .iris => { a with iris := r }
  | .zoom => { a with zoom := r }

/-! ## Band records and the Band Engine -/

/-- The flags of a band record (R72, R177). -/
structure BandFlags where
  extrapolated : Bool
  limited : Bool
  early : Bool
  held : Bool
  fixed : Bool
  mapEdge : Bool
  auxHeld : Bool
  scaleLimit : Bool
  shiftLimit : Bool
  gainLimit : Bool
  identity : Bool
  degraded : Bool
  late : Bool
deriving DecidableEq, Repr

/-- The values of a band record (R71), and the values from usable tracks kept with it (R74). -/
structure BandResult where
  pMean : Int
  u : Nat
  z : Nat
  a : Nat
  sx : Int
  sy : Int
  shx : Int
  shy : Int
  k1 : Int
  k2 : Int
  k3 : Int
  flags : BandFlags
  /-- p̄ and u, when the focus case was usable -/
  focusUsed : Option (Int × Nat)
  irisUsed : Option Nat
  zoomUsed : Option Nat
deriving DecidableEq, Repr

/-- The last-used values of the Band Engine (R12). -/
structure Held where
  pos : Option Int
  u : Option Nat
  a : Option Nat
  z : Option Nat
deriving DecidableEq, Repr

/-- All four held values absent. -/
def Held.none : Held := { pos := .none, u := .none, a := .none, z := .none }

/-- What a band is computed from (R9, R40, R86), the held values as they stand at the take included
(DEDUCED, log 11). -/
structure Snapshot where
  axes : Axes
  profile : ProfileState
  store : List Word
  mount : Mount
  settings : Settings
  held : Held
deriving DecidableEq, Repr

/-- The band in flight (section 1.1). `stale` marks a band taken before the profile last entered
READY (R12). -/
structure InFlight where
  frameNo : BitVec 32
  band : Nat
  deadline : Time
  ts : Time
  te : Time
  snapshot : Snapshot
  stale : Bool
deriving DecidableEq, Repr

/-- Engine states, with the band in flight. -/
inductive Engine where
  | idle
  | computing (b : InFlight)
  | handingOver (b : InFlight) (r : BandResult)
deriving DecidableEq, Repr

/-- The Band Engine (section 1.1). -/
structure BandEngine where
  engine : Engine
  held : Held
deriving DecidableEq, Repr

/-! ## Frame Timer -/

/-- Geometry of a frame (section 1.1). -/
structure Geometry where
  rows : Nat
  bands : Nat
  lineTime : Nat
  readoutOffset : Nat
  exposure : Nat
  releaseLead : Nat
deriving DecidableEq, Repr

/-- One row of a band table (R4, R5). -/
structure BandTiming where
  first : Nat
  last : Nat
  centre : Nat
  deadline : Time
  ts : Time
  te : Time
  release : Time
deriving DecidableEq, Repr

/-- Conditions of a frame (section 1.6). -/
inductive Condition where
  | opened | cutting | ended
deriving DecidableEq, Repr

/-- The frame most recently begun (section 1.1). -/
structure Frame where
  number : BitVec 32
  t0 : Time
  geom : Geometry
  table : List BandTiming
  settings : Settings
  condition : Condition
deriving DecidableEq, Repr

/-- A begin notice (R3, R144). -/
structure BeginNotice where
  number : BitVec 32
  t0 : Time
  bands : Nat
  ringBase : Nat
  ringSlots : Nat
  seq : Word
  ringReset : Bool
deriving DecidableEq, Repr

/-- A band record on its way to a slot, with its deadline and frame number (R8, R144). -/
structure RecordItem where
  frameNo : BitVec 32
  band : Nat
  deadline : Time
  result : BandResult
deriving DecidableEq, Repr

/-- Items of the Record Writer's work queue (R144); the first and last kinds are also the Frame Timer's
notices (R14). -/
inductive WorkItem where
  | opens (n : BeginNotice)
  | record (r : RecordItem)
  /-- an end notice, of kind CUT or COMPLETE -/
  | ends (number : BitVec 32) (cut : Bool)
deriving DecidableEq, Repr

/-- The Frame Timer (section 1.1). `cutting` is the number of the frame that is CUTTING. -/
structure FrameTimer where
  t0 : Time
  frameNo : BitVec 32
  current : Option Frame
  nextRelease : Nat
  released : List Nat
  watchdog : Option Time
  heldNotices : List WorkItem
  cutting : Option (BitVec 32)
deriving DecidableEq, Repr

/-- The FRAME input (R1): the microseconds since its last edge that was taken, or since RESETn returned high. FRAME
is low and then high again in them before its next edge is taken (DESIGN CHOICE, log 21). -/
structure FrameInput where
  since : Nat
deriving DecidableEq, Repr

/-! ## Link Controller -/

/-- AXL: the level other nodes give it, how long they have, and how long ago the part last drove it
dominant, in microseconds (section 9.9; DESIGN CHOICE, log 18). -/
structure Wire where
  level : Level
  age : Nat
  own : Nat
deriving DecidableEq, Repr

/-- A frame or a reply being read: the falling edge its bit times count from, and the bits read at the
bit middles so far, recessive as `true` (R96). -/
structure Reading where
  start : Time
  bits : List Bool
deriving DecidableEq, Repr

/-- The MARK in flight (section 5.1). `interpreted` is false once the frame is no longer interpreted. -/
structure Transaction where
  axis : Axis
  unit : Nat
  seq : Byte
  code : Completion
  /-- end of END-OF-DATA, once reached -/
  windowAt : Option Time
  sampleTime : Option Time
  /-- position and status byte, once the reply is read whole -/
  reply : Option (Counts × Byte)
  interpreted : Bool
deriving DecidableEq, Repr

/-- The frame of another node being read (section 5.1); its header and data are bits of the reading. -/
structure RxFrame where
  /-- its LEAD began on a free wire (R100); false once it is judged FRAMING, or when it won an arbitration -/
  joinable : Bool
  interpreted : Bool
  framing : Bool
  /-- it is a MARK and its REPLY-LEAD has been seen (R98) -/
  replied : Bool
deriving DecidableEq, Repr

/-- The dominant measure (R113): the length in microseconds of the dominant level on AXL or, once it has
ended, of the last one, the part's own driving left out; and whether it has been present at a bound
position. -/
structure DominantMeasure where
  length : Nat
  bound : Bool
deriving DecidableEq, Repr

/-- The Link Controller (section 5.1). The rate in force is that of the settings in force (R96). -/
structure Link where
  st : LinkState
  tick : Option Time
  pointer : Nat
  seq : Byte
  waiting : Option (Axis × Nat)
  trans : Option Transaction
  rx : Option RxFrame
  /-- the part's own frame read back, a frame of another node, or a reply -/
  reading : Option Reading
  dominant : Option DominantMeasure
  owed : Bool
  /-- while the part drives a break: when it releases the wire -/
  breakEnd : Option Time
  /-- in BREAK_TX and BREAK_RX: the break has ended and the link waits for a recessive wire -/
  breakOver : Bool
deriving DecidableEq, Repr

/-! ## Mount Sensor and Profile Loader -/

/-- The Mount Sensor (section 4.6). -/
structure MountSensor where
  mount : Mount
  lastRaw : Option Level
  timer : Time
deriving DecidableEq, Repr

/-- Phases of a load (section 4.2). -/
inductive LoadPhase where
  | header | body | finishing
deriving DecidableEq, Repr

/-- A load in flight: its target, phase, detach mark and load buffer (section 4.2). -/
structure Load where
  base : Nat
  serial : BitVec 32
  extent : Option Nat
  phase : LoadPhase
  detached : Bool
  words : List Word
  parityFailed : Bool
deriving DecidableEq, Repr

/-- The loaded pair with its extent (section 4.2). -/
structure Loaded where
  base : Nat
  serial : BitVec 32
  extent : Nat
deriving DecidableEq, Repr

/-- The Profile Loader and the profile store (section 4.2). -/
structure ProfileLoader where
  st : ProfileState
  loaded : Option Loaded
  load : Option Load
  reason : FaultReason
  /-- PROFILE_SERIAL of the load that failed, shown in FAULTED (R87) -/
  failedSerial : BitVec 32
  store : List Word
  /-- the outstanding request serves the load in flight -/
  awaiting : Bool
deriving DecidableEq, Repr

/-! ## Settings Reader -/

/-- A write of one word. -/
abbrev WordWrite := Nat × Word

/-- Items of an axis record that are mirrored (R39), in address order. -/
inductive AxisItem where
  | state | lastCompletion | unitStatus | lastNote | misses | trackCount | lastPosition
deriving DecidableEq, Repr

/-- The mirrored fields of the exchange header (R174). -/
inductive MirrorField where
  | partState | profileState | profileSerial | profileReason | mount | warnCount | nextSlot | frameNo
  | axis (x : Axis) (i : AxisItem)
  | linkState | markSeq
deriving DecidableEq, Repr

/-- The examination (section 6.1, R125 to R127). `frameNo` is the number REPORT_FRAME is to carry. -/
inductive Examination where
  | none
  /-- LOOKING: SELECTOR is read -/
  | readSelector (frameNo : BitVec 32)
  /-- LOOKING: the named page's PAGE_SEQ is read -/
  | readSeq (selector : Word) (frameNo : BitVec 32)
  /-- the request is new; EXAMINATION_BEGIN is due -/
  | found (selector seq : Word) (seqParity : Bool) (frameNo : BitVec 32)
  /-- COPYING; `parityAt` is the offset of a word that failed parity -/
  | copying (selector seq : Word) (words : List Word) (parityAt : Option Nat)
deriving DecidableEq, Repr

/-- What the Settings Reader's outstanding request serves. -/
inductive ReaderAwaits where
  | nothing | write | selector | pageSeq | pageWord
deriving DecidableEq, Repr

/-- The Settings Reader (section 6.1, R192). -/
structure SettingsReader where
  lastPair : Option (Word × Word)
  exam : Examination
  pendingCopy : Option Adopted
  inForce : Option Adopted
  prevRate : LinkRate
  report : List WordWrite
  marks : List MirrorField
  mirrorRest : Option WordWrite
  awaiting : ReaderAwaits
deriving DecidableEq, Repr

/-! ## Record Writer -/

/-- The slot being filled (section 7.1). -/
structure OpenSlot where
  index : Nat
  base : Nat
  ringBase : Nat
  ringSlots : Nat
  frameNo : BitVec 32
  t0 : Time
  planned : Nat
  written : Nat
  overwrote : Bool
  noProfile : Bool
  noLens : Bool
  degraded : Bool
deriving DecidableEq, Repr

/-- The work item in hand and the words of it not yet presented. -/
inductive RwWork where
  | none
  /-- the STATE word of a slot is being judged; `presented` once its read has been presented -/
  | judging (n : BeginNotice) (index base : Nat) (presented : Bool)
  /-- the slot has been judged and its header is to be written; SLOT_OPEN is due -/
  | judged (n : BeginNotice) (index base : Nat) (overwrote : Bool)
  /-- the header and the empty tags are being written -/
  | opening (rest : List WordWrite)
  /-- a band record is being written -/
  | recording (rest : List WordWrite) (r : RecordItem)
  /-- the record's TAG has been granted; RECORD_WRITTEN is due -/
  | recorded (r : RecordItem)
  /-- the words of a close are being written -/
  | closing (rest : List WordWrite)
deriving DecidableEq, Repr

/-- The Record Writer (section 7.1). -/
structure RecordWriter where
  nextSlot : Nat
  queue : List WorkItem
  openSlot : Option OpenSlot
  work : RwWork
  warnCount : Nat
  warnOut : Bool
deriving DecidableEq, Repr

/-! ## Exchange memory and its arbiter -/

/-- Exchange memory: addresses strictly rising, no entry equal to what an unlisted address reads as. -/
abbrev Memory := List (Nat × Stored)

/-- The four requestors, highest priority first (section 8.2). -/
inductive Requestor where
  | recordWriter | systemPort | settingsReader | profileLoader
deriving DecidableEq, Repr

/-- A word request: its address and, for a write, its data. -/
structure Request where
  addr : Nat
  write : Option Word
deriving DecidableEq, Repr

/-- The access in flight: its requestor, its address and, for a read, the word as it stood at the
grant. -/
structure Access where
  who : Requestor
  addr : Nat
  read : Option Stored
deriving DecidableEq, Repr

/-- The Memory Arbiter (section 8.2). -/
structure Arbiter where
  inflight : Option Access
  reqRw : Option Request
  reqPort : Option Request
  reqSr : Option Request
  reqPl : Option Request
  clearHold : Bool
  portHold : Bool
deriving DecidableEq, Repr

/-! ## System Port and Attention Logic -/

/-- The memory access on the port's inputs: address and, for a write, the word on D. -/
structure Strobe where
  addr : Nat
  write : Option Word
deriving DecidableEq, Repr

/-- Port states (R167); `presented` once the access's request has been presented. -/
inductive PortPhase where
  | idle
  | waiting (presented : Bool)
  | done
deriving DecidableEq, Repr

/-- The System Port (section 8.3). -/
structure SystemPort where
  strobe : Option Strobe
  phase : PortPhase
  dataOut : Option Word
deriving DecidableEq, Repr

/-- The Attention Logic (section 9.1). -/
structure Attention where
  part : PartState
  causes : BitVec 11
  enables : BitVec 11
  faultAddr : BitVec 15
  tbLatch : Word
  /-- ATTN is driven low -/
  attnLow : Bool
  /-- D during the most recent read of TB_LO (DESIGN CHOICE, log 22) -/
  tbLoRead : Option Word
deriving DecidableEq, Repr

end Sys2Proof.Machine

namespace Sys2Proof.Machine

/-- The whole machine: the queue of waiting commands and one component per block. -/
structure State where
  pending : List Instr
  clk : Clock
  ft : FrameTimer
  be : BandEngine
  axes : Axes
  lc : Link
  ms : MountSensor
  pl : ProfileLoader
  sr : SettingsReader
  rw : RecordWriter
  mem : Memory
  ma : Arbiter
  sp : SystemPort
  al : Attention
  wire : Wire
  fi : FrameInput
deriving DecidableEq, Repr

/-! Named updates of one component. -/

def State.withPending (s : State) (x : List Instr) : State := { s with pending := x }
def State.withClk (s : State) (x : Clock) : State := { s with clk := x }
def State.withFt (s : State) (x : FrameTimer) : State := { s with ft := x }
def State.withBe (s : State) (x : BandEngine) : State := { s with be := x }
def State.withAxes (s : State) (x : Axes) : State := { s with axes := x }
def State.withLc (s : State) (x : Link) : State := { s with lc := x }
def State.withMs (s : State) (x : MountSensor) : State := { s with ms := x }
def State.withPl (s : State) (x : ProfileLoader) : State := { s with pl := x }
def State.withSr (s : State) (x : SettingsReader) : State := { s with sr := x }
def State.withRw (s : State) (x : RecordWriter) : State := { s with rw := x }
def State.withMem (s : State) (x : Memory) : State := { s with mem := x }
def State.withMa (s : State) (x : Arbiter) : State := { s with ma := x }
def State.withSp (s : State) (x : SystemPort) : State := { s with sp := x }
def State.withAl (s : State) (x : Attention) : State := { s with al := x }
def State.withWire (s : State) (x : Wire) : State := { s with wire := x }
def State.withFi (s : State) (x : FrameInput) : State := { s with fi := x }

/-! ## Hard-reset values, block by block -/

/-- R21. The next-release index is 0, as a soft reset leaves it (R20): R21 gives it no value (DESIGN CHOICE, log 46). -/
def FrameTimer.reset : FrameTimer :=
  { t0 := 0, frameNo := 0, current := none, nextRelease := 0, released := [], watchdog := none,
    heldNotices := [], cutting := none }

/-- R21. -/
def BandEngine.reset : BandEngine := { engine := .idle, held := Held.none }

/-- R44. -/
def Axes.reset : Axes := { focus := AxisRec.idle, iris := AxisRec.idle, zoom := AxisRec.idle }

/-- R123. -/
def Link.reset : Link :=
  { st := .off, tick := none, pointer := 0, seq := 0, waiting := none, trans := none, rx := none,
    reading := none, dominant := none, owed := false, breakEnd := none, breakOver := false }

/-- R94. -/
def MountSensor.reset : MountSensor :=
  { mount := .absent, lastRaw := none, timer := Config.firstMountSample }

/-- R89; the store's contents are never read before a load passes (DESIGN CHOICE, log 10). -/
def ProfileLoader.reset : ProfileLoader :=
  { st := .empty, loaded := none, load := none, reason := .none, failedSerial := 0, store := [],
    awaiting := false }

/-- R143; the marks of the mirror are set at the end of the memory clear (R172). -/
def SettingsReader.reset : SettingsReader :=
  { lastPair := none, exam := .none, pendingCopy := none, inForce := none, prevRate := .slow,
    report := [], marks := [], mirrorRest := none, awaiting := .nothing }

/-- R159. -/
def RecordWriter.reset : RecordWriter :=
  { nextSlot := 0, queue := [], openSlot := none, work := .none, warnCount := 0, warnOut := false }

/-- R172: no request, no access, both holds set. -/
def Arbiter.reset : Arbiter :=
  { inflight := none, reqRw := none, reqPort := none, reqSr := none, reqPl := none,
    clearHold := true, portHold := true }

/-- R171, with no strobe held. -/
def SystemPort.reset : SystemPort := { strobe := none, phase := .idle, dataOut := none }

/-- R181. -/
def Attention.reset : Attention :=
  { part := .clearing, causes := 0, enables := 0, faultAddr := 0, tbLatch := 0, attnLow := false,
    tbLoRead := none }

/-- AXL recessive, with no time counted yet (DESIGN CHOICE, log 41). -/
def Wire.reset : Wire := { level := .high, age := 0, own := 0 }

/-- No time has been counted on FRAME yet (DESIGN CHOICE, log 21). -/
def FrameInput.reset : FrameInput := { since := 0 }

/-- The moment RESETn returns high after a hard reset (R181): the timebase is 0, the part state is
CLEARING, every block holds its hard-reset values and memory reads 0 throughout (R160; DESIGN CHOICE,
log 4, 7). -/
def State.reset : State :=
  { pending := [], clk := { tb := 0, resetn := true }, ft := FrameTimer.reset, be := BandEngine.reset,
    axes := Axes.reset, lc := Link.reset, ms := MountSensor.reset, pl := ProfileLoader.reset,
    sr := SettingsReader.reset, rw := RecordWriter.reset, mem := [], ma := Arbiter.reset,
    sp := SystemPort.reset, al := Attention.reset, wire := Wire.reset, fi := FrameInput.reset }

end Sys2Proof.Machine
end

