-- ==== Sys2Proof/Machine/Flags.lean ====
section
/-! DEFINITION. Codes and flag words: the encodings of R174, the flags of R177, the causes of R179. -/

namespace Sys2Proof.Machine

/-! ## Encodings (R174) -/

def PartState.code : PartState → Nat
  | .clearing => 0 | .halted => 1 | .armed => 2 | .running => 3 | .frameless => 4

def ProfileState.code : ProfileState → Nat
  | .empty => 0 | .loading => 1 | .ready => 2 | .unbound => 3 | .faulted => 4

def FaultReason.code : FaultReason → Nat
  | .none => 0 | .parity => 1 | .layout => 2 | .serial => 3 | .shape => 4 | .range => 5 | .check => 6

def AxisState.code : AxisState → Nat
  | .idle => 0 | .fixed => 1 | .seeking => 2 | .qualifying => 3 | .live => 4 | .stale => 5 | .lost => 6

def Completion.code : Completion → Nat
  | .none => 0 | .ok => 1 | .noReply => 2 | .checkFault => 3 | .framing => 4 | .bitFault => 5
  | .lostArb => 6 | .broken => 7 | .skipped => 8

def LinkState.code : LinkState → Nat
  | .off => 0 | .idle => 1 | .sending => 2 | .awaitReply => 3 | .receiving => 4 | .breakTx => 5
  | .breakRx => 6 | .stuck => 7

def NoteCode.code : NoteCode → Nat
  | .none => 0 | .endstop => 1 | .fault => 2 | .rezero => 3

def Mount.code : Mount → Nat
  | .absent => 0 | .present => 1

/-- The note of a code 1..3 (R107, R178). -/
def noteOf (b : Byte) : Option NoteCode :=
  if b = 1 then some .endstop else if b = 2 then some .fault else if b = 3 then some .rezero else none

/-! ## Causes (R179) -/

/-- The bit of a cause in CAUSES and ENABLES. -/
def Cause.bit : Cause → Nat
  | .frame => 0 | .adopt => 1 | .refuse => 2 | .profile => 3 | .pfault => 4 | .lens => 5 | .axis => 6
  | .frameloss => 7 | .overrun => 8 | .parity => 9 | .stuck => 10

/-- The mask of a cause. -/
def Cause.mask (c : Cause) : BitVec 11 := 1 <<< c.bit

/-- A cause is SET. -/
def Attention.isSet (al : Attention) (c : Cause) : Bool := al.causes.getLsbD c.bit

/-! ## Band flags (R177) -/

/-- A bit of a flags word. -/
def flagBit (b : Bool) (i : Nat) : Word := if b then 1 <<< i else 0

/-- The FLAGS word of a band record: bit 0 EXTRAPOLATED to bit 12 LATE. -/
def BandFlags.word (f : BandFlags) : Word :=
  flagBit f.extrapolated 0 ||| flagBit f.limited 1 ||| flagBit f.early 2 ||| flagBit f.held 3 |||
  flagBit f.fixed 4 ||| flagBit f.mapEdge 5 ||| flagBit f.auxHeld 6 ||| flagBit f.scaleLimit 7 |||
  flagBit f.shiftLimit 8 ||| flagBit f.gainLimit 9 ||| flagBit f.identity 10 |||
  flagBit f.degraded 11 ||| flagBit f.late 12

/-- The FLAGS word of a slot header: DEGRADED, WARN, CUT, OVERWROTE, NO_PROFILE, NO_LENS from bit 0. -/
def headerFlags (degraded warn cut overwrote noProfile noLens : Bool) : Word :=
  flagBit degraded 0 ||| flagBit warn 1 ||| flagBit cut 2 ||| flagBit overwrote 3 |||
  flagBit noProfile 4 ||| flagBit noLens 5

/-- The empty tag: frame part 0, band part 255 (R177). -/
def emptyTag : Word := 0x00FF

/-- The TAG of a record: frame part the low 8 bits of the frame number, band part the band index
(R148, R177). -/
def tagWord (frameNo : BitVec 32) (band : Nat) : Word :=
  frameNo.extractLsb' 0 8 ++ BitVec.ofNat 8 band

/-- A header word of an axis: its state in bits 15-8, its unit status in bits 7-0 (R177). -/
def axisWord (r : AxisRec) : Word := BitVec.ofNat 8 r.st.code ++ r.unitStatus

/-! ## Header words -/

/-- The 16 words of a band record in the order of the layout, TAG first (R177). -/
def recordLayout (frameNo : BitVec 32) (band : Nat) (r : BandResult) : List Word :=
  let p := BitVec.ofInt 32 r.pMean
  let sx := BitVec.ofInt 32 r.sx
  let sy := BitVec.ofInt 32 r.sy
  [tagWord frameNo band, r.flags.word, hiWord p, loWord p, natWord r.u, natWord r.z, natWord r.a,
   hiWord sx, loWord sx, hiWord sy, loWord sy, intWord r.shx, intWord r.shy,
   intWord r.k1, intWord r.k2, intWord r.k3]

end Sys2Proof.Machine
end

