-- ==== Sys2Proof/Machine/Operands.lean ====
section
/-! DEFINITION. How operands are read: the CONTROL word, the header byte of a link frame, the CRC-8 of
the axis link, positions carried in bytes. -/

namespace Sys2Proof.Machine

/-- What a word written to CONTROL asks for (R183). -/
inductive ControlCommand where
  | nothing
  | run
  | halt
  | sreset
deriving DecidableEq, Repr

/-- SRESET goes before HALT and HALT before RUN; bit 0 RUN, bit 1 HALT, bit 2 SRESET (R179, R183). -/
def controlCommand (v : Word) : ControlCommand :=
  if v.getLsbD 2 then .sreset
  else if v.getLsbD 1 then .halt
  else if v.getLsbD 0 then .run
  else .nothing

/-- Kind of a link frame, bits 7-6 of its header: 0 NOTE, 1 MARK, 2 and 3 unused (R178). -/
def headerKind (h : Byte) : Nat := (h.extractLsb' 6 2).toNat

/-- Unit address of a link frame, bits 5-3 of its header (R178). -/
def headerAddress (h : Byte) : Nat := (h.extractLsb' 3 3).toNat

/-- Data length of a link frame, bits 2-0 of its header (R178). -/
def headerLength (h : Byte) : Nat := (h.extractLsb' 0 3).toNat

/-- The header of a MARK to a unit: kind MARK, its address, length 1 (R103, R178). -/
def markHeader (unit : Nat) : Byte := BitVec.ofNat 8 (0x40 + 8 * unit + 1)

/-- One bit of the CRC-8: a shift toward the most significant end, with 0x07 combined in when the bit
shifted out was 1 (R99). -/
def crcBit (v : Byte) : Byte := if v.msb then (v <<< 1) ^^^ 0x07 else v <<< 1

/-- The running value after one byte: combined by exclusive-or, then eight shifts (R99). -/
def crcByte (v b : Byte) : Byte :=
  crcBit (crcBit (crcBit (crcBit (crcBit (crcBit (crcBit (crcBit (v ^^^ b))))))))

/-- The check byte over bytes in the order sent, from the initial value 0xFF (R99). -/
def crc8 (bytes : List Byte) : Byte := bytes.foldl crcByte 0xFF

/-- A position carried in three bytes, high byte first (R105, R107). -/
def positionOf (p2 p1 p0 : Byte) : Counts := p2 ++ p1 ++ p0

end Sys2Proof.Machine
end

