-- ==== Sys2Proof/Machine/Ops.lean ====
section
/-! DEFINITION. Shared operations: exchange memory and parity, causes and ATTN, the
settings in force as the blocks read them, the register window. -/

namespace Sys2Proof.Machine

/-! ## Words and parity (R160) -/

/-- The parity bit that goes with 16 data bits: the 17 bits hold an odd number of ones. -/
def parityFor (w : Word) : Bool :=
  ((List.range 16).filter (fun i => w.getLsbD i)).length % 2 == 0

/-- A word as every write leaves it: freshly generated parity. -/
def Stored.fresh (w : Word) : Stored := { data := w, parity := parityFor w }

/-- The word passes its parity check. -/
def Stored.good (v : Stored) : Bool := v.parity == parityFor v.data

/-- The word a disturbance leaves: these data bits, bad parity. -/
def Stored.disturbed (w : Word) : Stored := { data := w, parity := !parityFor w }

/-- What an unlisted address reads as: 0 with good parity, the word after a hard reset (R160). -/
def Stored.zero : Stored := { data := 0, parity := true }

/-- The listed word at an address, `Stored.zero` where none is. -/
def memRead : Memory → Nat → Stored
  | [], _ => Stored.zero
  | (k, v) :: m, a => if k = a then v else memRead m a

/-- A word stored at an address, keeping the canonical form. -/
def memPut : Memory → Nat → Stored → Memory
  | [], a, v => if v = Stored.zero then [] else [(a, v)]
  | (k, w) :: m, a, v =>
    if a < k then (if v = Stored.zero then (k, w) :: m else (a, v) :: (k, w) :: m)
    else if a = k then (if v = Stored.zero then m else (a, v) :: m)
    else (k, w) :: memPut m a v

/-- A write of one word: 16 data bits and fresh parity (R160). The memory has no word past 0x7FFF. -/
def memWrite (m : Memory) (a : Nat) (w : Word) : Memory :=
  if a < Config.memoryWords then memPut m a (Stored.fresh w) else m

/-- A disturbance of a stored word (R160). -/
def memDisturb (m : Memory) (a : Nat) (w : Word) : Memory :=
  if a < Config.memoryWords then memPut m a (Stored.disturbed w) else m

/-- The word a read finds: the stored one; past 0x7FFF the book has none (DESIGN CHOICE, log 9). -/
def memFetch (m : Memory) (now : Time) (a : Nat) : Stored :=
  if a < Config.memoryWords then memRead m a else Config.beyondMemory now a

/-- The canonical form above a lower bound: addresses strictly rising and inside the memory, no entry
equal to what an unlisted address reads as. -/
def memWfFrom : Nat → Memory → Bool
  | _, [] => true
  | lo, (k, v) :: m =>
    decide (lo ≤ k) && decide (k < Config.memoryWords) && (v != Stored.zero) && memWfFrom (k + 1) m

/-- The canonical form of a memory. -/
def memWf (m : Memory) : Bool := memWfFrom 0 m

/-! ## Causes and ATTN (R188, R189) -/

/-- ATTN is low while a cause is SET and enabled. -/
def Attention.judge (al : Attention) : Attention :=
  { al with attnLow := al.causes &&& al.enables != 0 }

/-- A raise sets the cause and re-judges ATTN (R188). -/
def Attention.raise (al : Attention) (c : Cause) : Attention :=
  { al with causes := al.causes ||| c.mask }.judge

def State.raise (s : State) (c : Cause) : State := s.withAl (s.al.raise c)

/-- Raise a cause when a condition holds. -/
def State.raiseIf (s : State) (b : Bool) (c : Cause) : State := if b then s.raise c else s

/-- The latch of FAULT_ADDR: the address of the most recent parity failure (R162). -/
def State.latchFault (s : State) (addr : Nat) : State :=
  s.withAl { s.al with faultAddr := BitVec.ofNat 15 addr }

/-! ## The settings in force as the blocks read them -/

/-- The settings in force. -/
def State.settings (s : State) : Option Settings := s.sr.inForce.map Adopted.settings

/-- The mode of an axis; OFF while no settings are in force (R22). -/
def State.mode (s : State) (x : Axis) : AxisMode :=
  match s.sr.inForce with
  | some a => (a.settings.axis x).mode
  | none => .off

/-- The unit of an axis (R22); 0, the address of no unit, while no settings are in force. -/
def State.unit (s : State) (x : Axis) : Nat :=
  match s.sr.inForce with
  | some a => (a.settings.axis x).unit
  | none => 0

/-- The axis is in mode TRACK. -/
def State.tracks (s : State) (x : Axis) : Bool := s.mode x == .track

/-- The rate in force; 250 kbit/s while no settings are (R96). -/
def State.rate (s : State) : LinkRate :=
  match s.sr.inForce with
  | some a => a.settings.linkRate
  | none => .slow

/-- The bit time of a rate, in microseconds (R96). -/
def LinkRate.tau : LinkRate → Nat
  | .slow => 4
  | .fast => 1

/-- `n` bit times at the rate in force. -/
def State.bits (s : State) (n : Nat) : Time := bitTimes s.rate.tau n

/-- The BLANK_TIME in force, in milliseconds: that of a blanking period which begins now (R24, R139). -/
def State.blankTime (s : State) : Nat :=
  match s.sr.inForce with
  | some a => a.settings.blankTime
  | none => 0

/-- A blanking expiry set now, a number of milliseconds from now (R30, R33, R34). -/
def State.expiryAfter (s : State) (ms : Nat) : Time := s.clk.tb + micros (1000 * ms)

/-- The expiry of a blanking period that begins now and is set now (R33, R34). -/
def State.blankUntil (s : State) : Time := s.expiryAfter s.blankTime

/-- The mount sample period: MOUNT_PERIOD ms, or 4 ms while no settings are in force (R90). -/
def State.mountPeriod (s : State) : Nat :=
  match s.sr.inForce with
  | some a => 1000 * a.settings.mountPeriod
  | none => Config.defaultMountPeriod

/-- The next mark tick, P after now; STOPPED while no settings are in force (R109). -/
def State.nextTick (s : State) : Option Time :=
  match s.sr.inForce with
  | some a => some (s.clk.tb + micros a.settings.markPeriod)
  | none => none

/-- LINK_LATENCY in force (R103). -/
def State.latency (s : State) : Nat :=
  match s.sr.inForce with
  | some a => a.settings.linkLatency
  | none => 0

/-- Words of a slot of B bands (R145). -/
def slotSize (bands : Nat) : Nat := 16 + 16 * bands

/-- Words of a ring area of K slots of B bands (R79, R131). -/
def ringSize (slots bands : Nat) : Nat := slots * slotSize bands

/-! ## Output pins -/

/-- WAITn is low while a memory access has not been completed (R168, R169). -/
def State.waitLow (s : State) : Bool :=
  match s.sp.phase with
  | .waiting _ => true
  | _ => false

/-- The part state lets WARN out (R156). -/
def PartState.live : PartState → Bool
  | .armed | .running | .frameless => true
  | .clearing | .halted => false

/-! ## The register window (R170, R179, R190, R191) -/

/-- What a register read drives on D: undefined addresses and CONTROL read 0. -/
def State.registerRead (s : State) (addr : Nat) : Word :=
  match addr with
  | 0 => Config.ident
  | 2 => natWord s.al.part.code
  | 3 => s.al.causes.setWidth 16
  | 4 => s.al.enables.setWidth 16
  | 5 => s.al.faultAddr.setWidth 16
  | 6 => loWord s.clk.tb
  | 7 => s.al.tbLatch
  | _ => 0

/-- The part takes register writes: RESETn is high and CLEARING has ended (R170, R171). -/
def State.takesWrites (s : State) : Bool := s.clk.resetn && s.al.part != .clearing

end Sys2Proof.Machine
end

