-- ==== Sys2Proof/Machine/Page.lean ====
section
/-! DEFINITION. Settings pages (chapter 6): the fields of R175 read from a copy, and the checks of R128
in their order. -/

namespace Sys2Proof.Machine

/-! ## Reading fields (R175) -/

/-- A word of the copy as a number. -/
def pageNat (p : List Word) (i : Nat) : Nat := (nthWord p i).toNat

/-- A two-word field, high word first. -/
def pageLong (p : List Word) (i : Nat) : Nat := pageNat p i * 65536 + pageNat p (i + 1)

/-- A two-word field read as a signed 32-bit number. -/
def pageSigned (p : List Word) (i : Nat) : Int := (nthWord p i ++ nthWord p (i + 1) : BitVec 32).toInt

/-- An axis mode by its settings value (R130). -/
def modeOf (n : Nat) : AxisMode := if n = 1 then .track else if n = 2 then .fixed else .off

/-- A schedule slot by its settings value (R129). -/
def scheduleOf (n : Nat) : Option Axis :=
  if n = 1 then some .focus else if n = 2 then some .iris else if n = 3 then some .zoom else none

/-- Where the block of an axis lies in a page, its first field number, and the points its map area
holds (R130, R175). -/
def blockAt : Axis → Nat
  | .focus => 41 | .iris => 100 | .zoom => 135
def blockField : Axis → Nat
  | .focus => 31 | .iris => 40 | .zoom => 49
def mapCapacity : Axis → Nat
  | .focus => 17 | .iris => 9 | .zoom => 9

/-- The three axes in the order the checks take them. -/
def axisOrder : List Axis := [.focus, .iris, .zoom]

/-- The mode of an axis in a page. -/
def pageMode (p : List Word) (x : Axis) : AxisMode := modeOf (pageNat p (blockAt x))

/-- The first MAP_POINTS points of an axis's map, within its map area: counts and coordinate (R175). -/
def pagePoints (p : List Word) (x : Axis) : List (Int × Nat) :=
  (List.range (min (pageNat p (blockAt x + 7)) (mapCapacity x))).map (fun k =>
    (pageSigned p (blockAt x + 8 + 3 * k), pageNat p (blockAt x + 8 + 3 * k + 2)))

/-- The settings of one axis block (R130, R175). -/
def pageAxis (p : List Word) (x : Axis) : AxisSettings :=
  let b := blockAt x
  { mode := pageMode p x, unit := pageNat p (b + 1), fixedCoord := pageNat p (b + 2),
    qualify := pageNat p (b + 3), staleMisses := pageNat p (b + 4), lostMisses := pageNat p (b + 5),
    average := pageNat p (b + 6), points := pagePoints p x }

/-- The settings a page holds (R129, R175). -/
def pageSettings (p : List Word) : Settings :=
  { rows := pageNat p 2, bands := pageNat p 3, lineTime := pageNat p 4, readoutOffset := pageNat p 5,
    exposure := pageLong p 6, releaseLead := pageNat p 8, frameTimeout := pageLong p 9,
    ringBase := pageNat p 11, ringSlots := pageNat p 12, profileBase := pageNat p 13,
    profileSerial := nthWord p 14 ++ nthWord p 15, profileReload := pageNat p 16 == 1,
    breathingOn := pageNat p 17 == 1, shadingOn := pageNat p 18 == 1, lockCoord := pageNat p 19,
    headroom := pageNat p 20, scaleMax := pageLong p 21, shiftMax := pageNat p 23,
    shadingStrength := pageNat p 24, gainMax := pageNat p 25, extrapLimit := pageNat p 26,
    warnStretch := pageNat p 27, mountPeriod := pageNat p 28,
    linkRate := if pageNat p 29 = 1 then .fast else .slow, markPeriod := pageNat p 30,
    linkLatency := pageNat p 31, blankTime := pageNat p 32,
    schedule := (List.range 8).map (fun i => scheduleOf (pageNat p (33 + i))),
    focus := pageAxis p .focus, iris := pageAxis p .iris, zoom := pageAxis p .zoom }

/-! ## The checks (R128 to R134) -/

/-- Why a page is refused: the code of REPORT_RESULT and the detail (R128). -/
structure Refused where
  code : Nat
  detail : Nat
deriving DecidableEq, Repr

/-- The number within bounds, both included. -/
def within (lo hi n : Nat) : Bool := decide (lo ≤ n) && decide (n ≤ hi)

/-- One of 1, 2, 4, 8 (MOUNT_PERIOD, AVERAGE). -/
def powerTo8 (n : Nat) : Bool := n == 1 || n == 2 || n == 4 || n == 8

/-- The fields 3 to 30 that can fail RANGE, by number, with their tests (R129). -/
def pageFields (p : List Word) : List (Nat × Bool) :=
  [(3, within 16 8192 (pageNat p 2)),
   (4, within 1 32 (pageNat p 3) && decide (pageNat p 3 ≤ pageNat p 2)),
   (5, within 256 65535 (pageNat p 4)),
   (7, within 1 1000000 (pageLong p 6)),
   (8, within 0 10000 (pageNat p 8)),
   (9, within 1000 2000000 (pageLong p 9)),
   (11, within 2 16 (pageNat p 12)),
   (14, within 0 1 (pageNat p 16)),
   (15, within 0 1 (pageNat p 17)),
   (16, within 0 1 (pageNat p 18)),
   (18, within 16384 24576 (pageNat p 20)),
   (19, within 4194304 8388608 (pageLong p 21)),
   (20, within 0 32767 (pageNat p 23)),
   (21, within 0 256 (pageNat p 24)),
   (22, within 4096 32767 (pageNat p 25)),
   (23, within 0 20000 (pageNat p 26)),
   (24, within 0 255 (pageNat p 27)),
   (25, powerTo8 (pageNat p 28)),
   (26, within 0 1 (pageNat p 29)),
   (27, within 100 5000 (pageNat p 30)),
   (28, within 0 255 (pageNat p 31)),
   (29, within 0 1000 (pageNat p 32)),
   (30, (List.range 8).all (fun i => within 0 3 (pageNat p (33 + i))))]

/-- The fields of an axis block by number, with their tests (R130). UNIT, MAP_POINTS and MAP are tested
in TRACK only. -/
def axisFields (p : List Word) (x : Axis) : List (Nat × Bool) :=
  let b := blockAt x
  let f := blockField x
  let track := pageNat p b == 1
  [(f, within 0 2 (pageNat p b)),
   (f + 1, !track || within 1 4 (pageNat p (b + 1))),
   (f + 3, within 1 16 (pageNat p (b + 3))),
   (f + 4, within 1 255 (pageNat p (b + 4))),
   (f + 5, within (pageNat p (b + 4)) 255 (pageNat p (b + 5))),
   (f + 6, if x = .focus then pageNat p (b + 6) == 1 else powerTo8 (pageNat p (b + 6))),
   (f + 7, !track || within 2 (mapCapacity x) (pageNat p (b + 7))),
   (f + 8, !track || (pagePoints p x).all (fun q =>
      decide (-8388608 ≤ q.1) && decide (q.1 ≤ 8388607)))]

/-- The first field that lies outside its legal values, in rising number (R129, R130). -/
def rangeFailure (p : List Word) : Option Nat :=
  ((pageFields p ++ axisOrder.flatMap (axisFields p)).find? (fun f => !f.2)).map Prod.fst

/-- The 16-bit sum of words (R76, R128). -/
def wordSum (p : List Word) : Nat := (p.map BitVec.toNat).sum % 65536

/-- The LAYOUT check, its detail when it fails (R131). `extent` is the span the Profile Loader holds. -/
def layoutFailure (c : Settings) (extent : Option (Nat × Nat)) : Option Nat :=
  let size := ringSize c.ringSlots c.bands
  if c.ringBase < Config.freeArea ∨ Config.memoryWords < c.ringBase + size then some 1
  else if c.profileBase < Config.freeArea ∨ Config.memoryWords ≤ c.profileBase then some 2
  else if c.ringBase ≤ c.profileBase ∧ c.profileBase < c.ringBase + size then some 3
  else match extent with
    | some (base, n) => if spansShare c.ringBase size base n then some 4 else none
    | none => none

/-- Every two neighbours of a list stand in a relation. -/
def neighbours {α : Type} (r : α → α → Bool) : List α → Bool
  | a :: b :: rest => r a b && neighbours r (b :: rest)
  | _ => true

/-- A map in order: counts strictly rising or strictly falling throughout, coordinates not falling
(R132). -/
def mapInOrder (points : List (Int × Nat)) : Bool :=
  (neighbours (fun a b => decide (a.1 < b.1)) points ||
    neighbours (fun a b => decide (b.1 < a.1)) points) &&
  neighbours (fun a b => decide (a.2 ≤ b.2)) points

/-- The MAP check: the field number of the first map of a TRACK axis out of order (R132). -/
def mapFailure (c : Settings) : Option Nat :=
  (axisOrder.find? (fun x => (c.axis x).mode == .track && !mapInOrder (c.axis x).points)).map
    (fun x => blockField x + 8)

/-- The ADDRESS check: a unit two TRACK axes share (R133). -/
def addressFailure (c : Settings) : Option Nat :=
  let clash (x y : Axis) : Bool :=
    (c.axis x).mode == .track && (c.axis y).mode == .track && (c.axis x).unit == (c.axis y).unit
  if clash .focus .iris || clash .focus .zoom then some c.focus.unit
  else if clash .iris .zoom then some c.iris.unit
  else none

/-- The number of an axis in SCHEDULE (R129). -/
def axisNumber : Axis → Nat
  | .focus => 1 | .iris => 2 | .zoom => 3

/-- The SCHEDULE check: the first TRACK axis that no slot names (R133). -/
def scheduleFailure (c : Settings) : Option Nat :=
  (axisOrder.find? (fun x => (c.axis x).mode == .track && !c.schedule.contains (some x))).map axisNumber

/-- The PERIOD check: MARK_PERIOD below 96 bit times at the page's own rate (R134). -/
def periodFailure (c : Settings) : Option Nat :=
  if c.markPeriod < 96 * c.linkRate.tau then some 384 else none

/-- Refuse with a code when a check fails. -/
def refusedWith (code : Nat) (failure : Option Nat) : Option Refused :=
  failure.map (fun d => { code := code, detail := d })

/-- The checks CHECK to PERIOD over a whole copy, in their order (R128). -/
def pageRefusal (p : List Word) (extent : Option (Nat × Nat)) : Option Refused :=
  let c := pageSettings p
  refusedWith 18 (if wordSum p = 0 then none else some (wordSum p)) <|>
  refusedWith 19 (rangeFailure p) <|>
  refusedWith 20 (layoutFailure c extent) <|>
  refusedWith 21 (mapFailure c) <|>
  refusedWith 22 (addressFailure c) <|>
  refusedWith 23 (scheduleFailure c) <|>
  refusedWith 24 (periodFailure c)

end Sys2Proof.Machine
end

