-- ==== Sys2Proof/Machine/Mirror.lean ====
section
/-! DEFINITION. The status mirror of the exchange header: which fields there are, where they lie, what
they hold, and how they are marked (R39, R87, R121, R157, R174, R192). -/

namespace Sys2Proof.Machine

/-- The items of an axis block in rising address. -/
def axisItems : List AxisItem :=
  [.state, .lastCompletion, .unitStatus, .lastNote, .misses, .trackCount, .lastPosition]

/-- Every mirrored field in rising address (R174). -/
def mirrorFields : List MirrorField :=
  [.partState, .profileState, .profileSerial, .profileReason, .mount, .warnCount, .nextSlot, .frameNo] ++
  axisItems.map (.axis .focus) ++ axisItems.map (.axis .iris) ++ axisItems.map (.axis .zoom) ++
  [.linkState, .markSeq]

/-- The offset of an item in its axis block (R174). -/
def AxisItem.offset : AxisItem → Nat
  | .state => 0 | .lastCompletion => 1 | .unitStatus => 2 | .lastNote => 3 | .misses => 4
  | .trackCount => 5 | .lastPosition => 6

/-- The first word of an axis block (R174). -/
def axisBlock : Axis → Nat
  | .focus => 0x0020 | .iris => 0x0028 | .zoom => 0x0030

/-- The first word of a mirrored field (R174). -/
def MirrorField.addr : MirrorField → Nat
  | .partState => 0x0010 | .profileState => 0x0011 | .profileSerial => 0x0012
  | .profileReason => 0x0014 | .mount => 0x0015 | .warnCount => 0x0016 | .nextSlot => 0x0017
  | .frameNo => 0x0018
  | .axis x i => axisBlock x + i.offset
  | .linkState => 0x0038 | .markSeq => 0x0039

/-- PROFILE_SERIAL of the mirror (R87). -/
def ProfileLoader.mirrorSerial (pl : ProfileLoader) : BitVec 32 :=
  match pl.st with
  | .empty => 0
  | .loading => match pl.load with
    | some l => l.serial
    | none => 0
  | .ready | .unbound => match pl.loaded with
    | some l => l.serial
    | none => 0
  | .faulted => pl.failedSerial

/-- The words of an axis item (R39, R174). -/
def AxisRec.item (r : AxisRec) : AxisItem → List Word
  | .state => [natWord r.st.code]
  | .lastCompletion => [natWord r.lastCompletion.code]
  | .unitStatus => [r.unitStatus.setWidth 16]
  | .lastNote => [natWord r.lastNote.code]
  | .misses => [natWord r.misses]
  | .trackCount => [natWord r.track.length]
  | .lastPosition =>
    let p : BitVec 32 := r.lastPos.signExtend 32
    [hiWord p, loWord p]

/-- The words of a mirrored field as its item stands: one word, or two with the high word first. -/
def State.mirrorWords (s : State) : MirrorField → List Word
  | .partState => [natWord s.al.part.code]
  | .profileState => [natWord s.pl.st.code]
  | .profileSerial => [hiWord s.pl.mirrorSerial, loWord s.pl.mirrorSerial]
  | .profileReason => [natWord s.pl.reason.code]
  | .mount => [natWord s.ms.mount.code]
  | .warnCount => [natWord s.rw.warnCount]
  | .nextSlot => [natWord s.rw.nextSlot]
  | .frameNo => [hiWord s.ft.frameNo, loWord s.ft.frameNo]
  | .axis x i => (s.axes.get x).item i
  | .linkState => [natWord s.lc.st.code]
  | .markSeq => [s.lc.seq.setWidth 16]

/-- Marks of the fields that are marked already or that a test picks out, in rising address. -/
def marksWith (old : List MirrorField) (p : MirrorField → Bool) : List MirrorField :=
  mirrorFields.filter (fun f => old.contains f || p f)

/-- Mark one field (R192). -/
def State.markField (s : State) (f : MirrorField) : State :=
  s.withSr { s.sr with marks := marksWith s.sr.marks (· == f) }

/-- Mark every field (R172, R186). -/
def State.markAll (s : State) : State := s.withSr { s.sr with marks := mirrorFields }

/-- Mark every field whose item a step changed (R192): `before` is the state the step began in. -/
def State.markChanged (s before : State) : State :=
  s.withSr { s.sr with
    marks := marksWith s.sr.marks (fun f => s.mirrorWords f != before.mirrorWords f) }

end Sys2Proof.Machine
end

