-- ==== Sys2Proof/Machine/Wire.lean ====
section
/-! DEFINITION. AXL (sections 5.2 to 5.4): the bits of a frame, what the part drives and reads, free and
bound positions, the dominant measure, and the passing of time over the wire. -/

namespace Sys2Proof.Machine

/-! ## The bits of a frame (R96, R97, R99, R103, R178) -/

/-- The bits of a byte in the order sent: most significant first, recessive (1) as `true` (R96, R97). -/
def byteBits (b : Byte) : List Bool := (List.range 8).map b.getMsbD

/-- The byte that bits in the order sent spell. -/
def bitsByte (bits : List Bool) : Byte := BitVec.ofNat 8 (bits.foldl (fun n b => 2 * n + b.toNat) 0)

/-- The eight bits from a place on, as a byte. -/
def byteAt (bits : List Bool) (first : Nat) : Byte := bitsByte ((bits.drop first).take 8)

/-- LEAD: three bit times dominant, then one recessive (R97). -/
def leadBits : List Bool := List.replicate 3 false ++ [true]

/-- The bytes of a MARK: header, the mark sequence, CHECK (R99, R103, R178). -/
def markBytes (unit : Nat) (seq : Byte) : List Byte :=
  [markHeader unit, seq, crc8 [markHeader unit, seq]]

/-- A MARK as the part sends it: LEAD, its bytes, END-OF-DATA of two recessive bit times (R97, R103). -/
def markBits (unit : Nat) (seq : Byte) : List Bool :=
  leadBits ++ (markBytes unit seq).flatMap byteBits ++ List.replicate 2 true

/-- The most bits the link reads of a frame: LEAD, header, seven data bytes, CHECK (R97, R98). -/
def frameBitsMax : Nat := 76

/-- Bit times from the falling edge of a frame's LEAD to the end of its CHECK (R97). -/
def frameEnd (header : Byte) : Nat := 20 + 8 * headerLength header

/-- Bit middles that lie within `x` microseconds of the edge that bit times count from (R96). -/
def middles (tau x : Nat) : Nat := (2 * x + tau) / (2 * tau)

/-- What has been read of the LEAD agrees with a LEAD (R98). -/
def Reading.leadOk (r : Reading) : Bool := r.bits.take 4 == leadBits.take r.bits.length

/-- The header of a frame, once its eight bits have been read after a valid LEAD (R98). -/
def Reading.header (r : Reading) : Option Byte :=
  if 12 ≤ r.bits.length ∧ r.leadOk = true then some (byteAt r.bits 4) else none

/-! ## What the part drives (R96, R100 to R102, R116) -/

/-- The first place at which the bits read differ from the bits sent. -/
def differsAt : List Bool → List Bool → Option Nat
  | a :: as, b :: bs => if a = b then (differsAt as bs).map (· + 1) else some 0
  | _, _ => none

/-- The MARK in flight as a row of bits. -/
def Transaction.sent (t : Transaction) : List Bool := markBits t.unit t.seq

/-- What the part drives of its frame, given what it has read back and the level other nodes give the
wire: it stops at the first bit that reads back different, which on a low wire is the next recessive one
(R101, R102). -/
def drivenBits (sent read : List Bool) (level : Level) : List Bool :=
  match differsAt sent read, level with
  | some i, _ => sent.take i
  | none, .high => sent
  | none, .low => sent.take read.length ++ (sent.drop read.length).takeWhile (!·)

/-- What the part drives while SENDING. -/
def State.driven (s : State) : List Bool :=
  match s.lc.st, s.lc.trans, s.lc.reading with
  | .sending, some t, some r => drivenBits t.sent r.bits s.wire.level
  | _, _, _ => []

/-- Microseconds since the edge that the bit times of a reading count from (R96). -/
def State.into (s : State) (r : Reading) : Nat := (s.clk.tb - r.start).toNat

/-- The part drives AXL dominant: a 0 of its frame, or a break until its end (R96, R116). -/
def State.drivesAxl (s : State) : Bool :=
  match s.lc.st, s.lc.reading, s.lc.breakEnd with
  | .sending, some r, _ => !(s.driven.getD (s.into r / s.rate.tau) true)
  | .breakTx, _, some e => !reached s.clk.tb e
  | _, _, _ => false

/-- Bit times up to the end of the last dominant one. -/
def lastDominant : List Bool → Nat
  | [] => 0
  | b :: bs => if b ∧ lastDominant bs = 0 then 0 else lastDominant bs + 1

/-- How long ago the part last drove the wire dominant, `d` microseconds after `own` was so; `drv` is what
it drives of its frame. -/
def State.ownAge (s : State) (drv : List Bool) (d : Nat) : Nat :=
  match s.lc.st, s.lc.reading, s.lc.breakEnd with
  | .sending, some r, _ =>
    s.into r - s.rate.tau * lastDominant (drv.take (s.into r / s.rate.tau + 1))
  | .breakTx, _, some e => if reached s.clk.tb e then (s.clk.tb - e).toNat else 0
  | _, _, _ => s.wire.own + d

/-! ## Levels and positions (R97, R113) -/

/-- How long the present dominant level has lasted, the part's own driving left out (R113). -/
def State.held (s : State) : Nat :=
  match s.wire.level with
  | .low => min s.wire.age s.wire.own
  | .high => 0

/-- How long the wire has been recessive. -/
def State.recessive (s : State) : Nat :=
  match s.wire.level with
  | .high => min s.wire.age s.wire.own
  | .low => 0

/-- The wire has been recessive for six bit times: the link is free (R98, R102, R115, R119). -/
def State.linkQuiet (s : State) : Bool := decide (6 * s.rate.tau ≤ s.recessive)

/-- The frame being read has had its END-OF-FRAME: six recessive bit times after bit time `e` (R97). -/
def State.frameEnded (s : State) (e : Nat) : Bool :=
  match s.lc.reading with
  | some r =>
    decide ((e + 6) * s.rate.tau ≤ s.into r) && decide (s.into r ≤ s.recessive + e * s.rate.tau)
  | none => false

/-- The wire was dominant after bit time `e` of the frame being read, where the frame calls for recessive
(R97, R98, R105). -/
def State.frameBroken (s : State) (e : Nat) : Bool :=
  match s.lc.reading with
  | some r =>
    decide (e * s.rate.tau ≤ s.into r) &&
      (s.wire.level == .low || decide (s.recessive + e * s.rate.tau < s.into r))
  | none => false

/-- The free positions of another node's frame, as bit times from a first to before a second: a REPLY-LEAD,
reply and reply CHECK; header, data and CHECK; none after an invalid LEAD (R97, R98). -/
def RxFrame.freeSlots (f : RxFrame) (r : Reading) : Nat × Nat :=
  if f.replied then (0, 41)
  else match r.header with
    | some h => (4, frameEnd h)
    | none => if r.leadOk then (4, 12) else (0, 0)

/-- The free positions of what is on the wire; none once a frame is no longer interpreted (R97). -/
def Link.freeSlots (lc : Link) : Nat × Nat :=
  match lc.st, lc.trans, lc.rx, lc.reading with
  | .sending, some _, _, _ => (4, 28)
  | .receiving, some t, _, _ => if t.interpreted then (0, 41) else (0, 0)
  | .receiving, none, some f, some r => if f.interpreted then f.freeSlots r else (0, 0)
  | _, _, _, _ => (0, 0)

/-- The wire is at a bound position now (R97). -/
def State.atBound (s : State) : Bool :=
  match s.lc.reading with
  | some r =>
    decide (s.into r < s.lc.freeSlots.1 * s.rate.tau) ||
      decide (s.lc.freeSlots.2 * s.rate.tau ≤ s.into r)
  | none => true

/-! ## Time on the wire (R96, R104, R113, R180) -/

/-- The bits whose middles have been passed are read: dominant while a node drives (R96). -/
def Reading.sampled (r : Reading) (tau x : Nat) (level : Level) (drv : List Bool) : Reading :=
  let n := r.bits.length
  let read := (List.range (min (middles tau x) frameBitsMax - n)).map
    (fun i => level == .high && drv.getD (n + i) true)
  { r with bits := r.bits ++ read }

/-- The link reads the wire for a time without an edge: bits, then the dominant measure. OFF it reads
nothing (R96, R113, R120). -/
def State.listen (s : State) (drv : List Bool) : State :=
  if s.lc.st = .off then s
  else
    let u := s.withLc { s.lc with
      reading := s.lc.reading.map (fun r => r.sampled s.rate.tau (s.into r) s.wire.level drv) }
    match s.wire.level with
    | .high => u
    | .low => u.withLc { u.lc with
        dominant := some { length := s.held, bound := u.lc.dominant.any (·.bound) || u.atBound } }

/-- `d` microseconds pass without an edge on AXL, unless RESETn holds the part; they count on FRAME too (R1). -/
def State.pass (s : State) (d : Time) : State :=
  if s.clk.resetn then
    let u := s.withClk { s.clk with tb := s.clk.tb + d }
    ((u.withFi { since := s.fi.since + d.toNat }).withWire { u.wire with
      age := s.wire.age + d.toNat, own := u.ownAge s.driven d.toNat }).listen s.driven
  else s

/-- The falling edge of a REPLY-LEAD starts the bit timing of a reply: its position is free (R97, R104). -/
def Link.replyLead (lc : Link) (now : Time) : Link :=
  { lc with
    reading := some { start := now, bits := [] }, dominant := some { length := 0, bound := false } }

/-- A falling edge lies in the reply window of another node's MARK: END-OF-DATA has been recessive, and at
most four bit times have passed since (R97, R98, R104). `recessive` is how long the wire had been so. -/
def State.foreignReplyLead (s : State) (f : RxFrame) (r : Reading) (recessive : Nat) : Bool :=
  match r.header with
  | some h =>
    f.interpreted && !f.replied && headerKind h == 1 &&
      decide ((frameEnd h + 2) * s.rate.tau ≤ s.into r) &&
      decide (s.into r ≤ (frameEnd h + 6) * s.rate.tau) &&
      decide (s.into r ≤ recessive + frameEnd h * s.rate.tau)
  | none => false

/-- A falling edge of another node reaches the link: a new dominant level is measured; in the reply window
of the part's MARK, at or before its close, or of another node's MARK, it is the REPLY-LEAD (R98, R104,
R113). The mark of LINK_STATE that a REPLY-LEAD sets is presented at the end of the next step whose event is due
(DESIGN CHOICE, log 48). -/
def State.fall (s : State) (recessive : Nat) : State :=
  let u := s.withLc { s.lc with dominant := some { length := 0, bound := s.atBound } }
  match s.lc.st, s.lc.trans, s.lc.rx, s.lc.reading with
  | .off, _, _, _ => s
  | .awaitReply, some t, _, _ => match t.windowAt with
    | some w =>
      if later s.clk.tb (w + s.bits 4) then u
      else (s.withLc { s.lc.replyLead s.clk.tb with st := .receiving }).markField .linkState
    | none => u
  | .receiving, none, some f, some r =>
    if s.foreignReplyLead f r recessive then
      s.withLc { s.lc.replyLead s.clk.tb with rx := some { f with replied := true } }
    else u
  | _, _, _, _ => u

/-- Another node's edge on AXL. While RESETn is low the part only sees the new level when it returns high
(DESIGN CHOICE, log 41). -/
def State.edge (s : State) : State :=
  match s.wire.level with
  | .low => s.withWire { s.wire with level := .high, age := 0 }
  | .high =>
    let u := s.withWire { s.wire with level := .low, age := 0 }
    if s.clk.resetn then u.fall s.recessive else u

/-- A span passes: the timebase counts its microseconds, unless RESETn holds it at 0, with an edge of other
nodes on AXL between one run and the next (R180; DESIGN CHOICE, log 18). -/
def State.elapse (s : State) : Span → State
  | [] => s
  | [d] => s.pass d
  | d :: e :: rest => (s.pass d).edge.elapse (e :: rest)

/-- A reading that begins at the last falling edge: the wire has been dominant since then. -/
def State.readingSinceFall (s : State) : Reading :=
  { start := s.clk.tb - micros s.wire.age,
    bits := List.replicate (min (middles s.rate.tau s.wire.age) frameBitsMax) false }

end Sys2Proof.Machine
end

