-- ==== Sys2Proof/Machine/Arbiter.lean ====
section
/-! DEFINITION. The Memory Arbiter (R163, R164): how each requestor presents its next word request, how
the arbiter grants, and how every step ends by doing both. -/

namespace Sys2Proof.Machine

/-- An access of this requestor is in flight. -/
def Arbiter.serves (ma : Arbiter) (who : Requestor) : Bool :=
  match ma.inflight with
  | some a => a.who == who
  | none => false

/-- A requestor may present a request: it has none pending and no access in flight (R163). -/
def Arbiter.free (ma : Arbiter) (who : Requestor) : Bool :=
  !ma.serves who &&
  match who with
  | .recordWriter => ma.reqRw.isNone
  | .systemPort => ma.reqPort.isNone
  | .settingsReader => ma.reqSr.isNone
  | .profileLoader => ma.reqPl.isNone

/-! ## Presenting -/

/-- The Record Writer presents the STATE read of an open, or the next word of what it writes (R146 to
R152). -/
def State.presentRw (s : State) : State :=
  if s.ma.free .recordWriter then
    match s.rw.work with
    | .judging n index base false =>
      (s.withMa { s.ma with reqRw := some { addr := base, write := none } }).withRw
        { s.rw with work := .judging n index base true }
    | .opening (w :: ws) =>
      (s.withMa { s.ma with reqRw := some { addr := w.1, write := some w.2 } }).withRw
        { s.rw with work := .opening ws }
    | .recording (w :: ws) r =>
      (s.withMa { s.ma with reqRw := some { addr := w.1, write := some w.2 } }).withRw
        { s.rw with work := .recording ws r }
    | .closing (w :: ws) =>
      (s.withMa { s.ma with reqRw := some { addr := w.1, write := some w.2 } }).withRw
        { s.rw with work := .closing ws }
    | _ => s
  else s

/-- The System Port presents the memory access on its inputs (R168, R169). -/
def State.presentPort (s : State) : State :=
  if s.ma.free .systemPort then
    match s.sp.phase, s.sp.strobe with
    | .waiting false, some k =>
      (s.withMa { s.ma with reqPort := some { addr := k.addr, write := k.write } }).withSp
        { s.sp with phase := .waiting true }
    | _, _ => s
  else s

/-- The Settings Reader's write of one word. -/
def State.readerWrites (s : State) (w : WordWrite) (sr : SettingsReader) : State :=
  (s.withMa { s.ma with reqSr := some { addr := w.1, write := some w.2 } }).withSr
    { sr with awaiting := .write }

/-- The Settings Reader's read of one word. -/
def State.readerReads (s : State) (addr : Nat) (what : ReaderAwaits) : State :=
  (s.withMa { s.ma with reqSr := some { addr := addr, write := none } }).withSr
    { s.sr with awaiting := what }

/-- The next read the look or the copy wants (R125, R127). A look takes SELECTOR as it stands at the grant of this
read, which may come after the frame start that began the look (R194; DESIGN CHOICE, log 45). -/
def State.presentExam (s : State) : State :=
  match s.sr.exam with
  | .readSelector _ => s.readerReads 0x0000 .selector
  | .readSeq sel _ => s.readerReads (Config.pageBase sel.toNat) .pageSeq
  | .copying sel _ ws none =>
    if ws.length < Config.pageWords then
      s.readerReads (Config.pageBase sel.toNat + ws.length) .pageWord
    else s
  | _ => s

/-- The Settings Reader presents, in this order: the second word of a mirrored field, the words of a
report update back to back, a marked field (its value taken now and its mark cleared), the next read of
the look or the copy (R126, R192; DESIGN CHOICE, log 15). It presents nothing during the clear (R172). -/
def State.presentSr (s : State) : State :=
  if s.ma.free .settingsReader && !s.ma.clearHold then
    match s.sr.mirrorRest, s.sr.report, s.sr.marks with
    | some w, _, _ => s.readerWrites w { s.sr with mirrorRest := none }
    | none, w :: ws, _ => s.readerWrites w { s.sr with report := ws }
    | none, [], f :: fs =>
      match s.mirrorWords f with
      | w :: v :: _ =>
        s.readerWrites (f.addr, w) { s.sr with marks := fs, mirrorRest := some (f.addr + 1, v) }
      | [w] => s.readerWrites (f.addr, w) { s.sr with marks := fs }
      | [] => s.withSr { s.sr with marks := fs }
    | none, [], [] => s.presentExam
  else s

/-- The words a load has still to fetch in its phase (R79, R80). -/
def Load.wants (l : Load) : Bool :=
  !l.parityFailed &&
  match l.phase with
  | .header => decide (l.words.length < 7)
  | .body => match l.extent with
    | some n => decide (l.words.length < n)
    | none => false
  | .finishing => false

/-- The Profile Loader presents its next fetch (R79, R80). -/
def State.presentPl (s : State) : State :=
  if s.ma.free .profileLoader then
    match s.pl.load with
    | some l =>
      if l.wants then
        (s.withMa { s.ma with
          reqPl := some { addr := l.base + l.words.length, write := none } }).withPl
          { s.pl with awaiting := true }
      else s
    | none => s
  else s

/-- Every requestor presents what it has to present. -/
def State.present (s : State) : State := s.presentRw.presentPort.presentSr.presentPl

/-! ## Granting -/

/-- The grant of a request: the one word is read or written here, and the access is in flight until its
completion (R163; DEDUCED, log 5). -/
def State.access (s : State) (who : Requestor) (r : Request) : State :=
  match r.write with
  | some w =>
    (s.withMem (memWrite s.mem r.addr w)).withMa
      { s.ma with inflight := some { who := who, addr := r.addr, read := none } }
  | none =>
    s.withMa { s.ma with
      inflight := some { who := who, addr := r.addr, read := some (memFetch s.mem s.clk.tb r.addr) } }

/-- The slot is closed: the open slot becomes absent, the next slot index advances modulo the
RING_SLOTS held with it, and FRAME is raised (R152). -/
def State.slotClosed (s : State) : State :=
  match s.rw.openSlot with
  | some o =>
    ((s.withRw { s.rw with
        nextSlot := (o.index + 1) % o.ringSlots, openSlot := none, work := .none }).markField
      .nextSlot).raise .frame
  | none => s.withRw { s.rw with work := .none }

/-- The grant of the last word of an open, a record or a close ends that work (R147, R149, R152). An open
has been handled, in the sense of R148, at the grant of its last empty tag (DESIGN CHOICE, log 13). -/
def State.rwGranted (s : State) : State :=
  match s.rw.work with
  | .opening [] => s.withRw { s.rw with work := .none }
  | .recording [] r => s.withRw { s.rw with work := .recorded r }
  | .closing [] => s.slotClosed
  | _ => s

/-- The request the arbiter would grant now: of those pending the one of highest priority, the System
Port's left out while the port hold is set (R163). -/
def Arbiter.choice (ma : Arbiter) : Option (Requestor × Request) :=
  if ma.inflight.isSome || ma.clearHold then none
  else match ma.reqRw, (if ma.portHold then none else ma.reqPort), ma.reqSr, ma.reqPl with
    | some r, _, _, _ => some (.recordWriter, r)
    | none, some r, _, _ => some (.systemPort, r)
    | none, none, some r, _ => some (.settingsReader, r)
    | none, none, none, some r => some (.profileLoader, r)
    | none, none, none, none => none

/-- The pending set without a requestor's request. -/
def Arbiter.drop (ma : Arbiter) : Requestor → Arbiter
  | .recordWriter => { ma with reqRw := none }
  | .systemPort => { ma with reqPort := none }
  | .settingsReader => { ma with reqSr := none }
  | .profileLoader => { ma with reqPl := none }

/-- A requestor withdraws its request if it has not been granted (R164). -/
def State.withdraw (s : State) (who : Requestor) : State := s.withMa (s.ma.drop who)

/-- The arbiter grants, if it can (R163). -/
def State.grant (s : State) : State :=
  match s.ma.choice with
  | some (.recordWriter, r) => ((s.withdraw .recordWriter).access .recordWriter r).rwGranted
  | some (who, r) => (s.withdraw who).access who r
  | none => s

/-! ## The end of a step -/

/-- The step of an event that is due ends by marking the mirrored fields it changed, presenting the requests now owed,
and granting one if the memory is idle (R163, R192; DESIGN CHOICE, log 6). `before` is the state the step
began in. -/
def State.settle (s before : State) : State := (s.markChanged before).present.grant.present

/-- A command runs: its elapsed time passes, then its event has its effect and the step settles. An event
that is not due (`none`) changes nothing but the time (DESIGN CHOICE, log 3): it presents nothing, so a mark set
while the time passed waits for the next event that is due (DESIGN CHOICE, log 48). -/
def runEvent (dt : Span) (event : State → Option State) (s : State) :
    Host.Outcome State Fault Refusal :=
  match event (s.elapse dt) with
  | some t => .next (t.settle (s.elapse dt))
  | none => .next (s.elapse dt)

end Sys2Proof.Machine
end

