-- ==== Sys2Proof/Machine/Correction.lean ====
section
/-! DEFINITION. Correction arithmetic (chapter 3): the five stages that turn a band's snapshot into its
record, and the profile store as the stages read it (R75, R176). -/

namespace Sys2Proof.Machine

/-! ## The profile in the store (R75, R176) -/

/-- Numbers of nodes, words 3 to 6 of a profile. -/
def profNub (p : List Word) : Nat := (nthWord p 3).toNat
def profNz (p : List Word) : Nat := (nthWord p 4).toNat
def profNuv (p : List Word) : Nat := (nthWord p 5).toNat
def profNa (p : List Word) : Nat := (nthWord p 6).toNat

/-- The serial of a profile, words 0 and 1, high word first. -/
def profSerial (p : List Word) : BitVec 32 := nthWord p 0 ++ nthWord p 1

/-- `n` words of a profile from an offset on, as numbers. -/
def profList (p : List Word) (offset n : Nat) : List Nat :=
  (List.range n).map (fun i => (nthWord p (offset + i)).toNat)

/-- The four node position lists. -/
def profZoom (p : List Word) : List Nat := profList p 7 (profNz p)
def profBreathingFocus (p : List Word) : List Nat := profList p (7 + profNz p) (profNub p)
def profShadingFocus (p : List Word) : List Nat :=
  profList p (7 + profNz p + profNub p) (profNuv p)
def profIris (p : List Word) : List Nat :=
  profList p (7 + profNz p + profNub p + profNuv p) (profNa p)

/-- The offset of the first breathing node word, and of the first shading node word. -/
def profBreathingAt (p : List Word) : Nat := 7 + profNz p + profNub p + profNuv p + profNa p
def profShadingAt (p : List Word) : Nat := profBreathingAt p + 4 * profNub p * profNz p

/-- The length a header gives, computed exactly (R76). -/
def profLength (p : List Word) : Nat :=
  7 + profNz p + profNub p + profNuv p + profNa p + 4 * profNub p * profNz p +
    3 * profNuv p * profNz p * profNa p

/-- A value of a breathing node: 0 Mx, 1 My, 2 dx, 3 dy. Mx and My are unsigned, dx and dy signed;
legal magnifications are below 32,768, so one signed reading serves all four. -/
def breathingNode (p : List Word) (n value : Nat) : Int :=
  (nthWord p (profBreathingAt p + 4 * n + value)).toInt

/-- A value of a shading node: 0 k1, 1 k2, 2 k3. -/
def shadingNode (p : List Word) (n value : Nat) : Int :=
  (nthWord p (profShadingAt p + 3 * n + value)).toInt

/-! ## Stage 1: the exposure-mean focus -/

/-- A sample as a pair: its time relative to the window's start, by signed difference, and its
position (R46). -/
def relSample (ts : Time) (x : Sample) : Int × Int := ((x.time - ts).toInt, x.pos.toInt)

/-- The line through two samples at a time, rounded to whole counts. -/
def lineAt (a b : Int × Int) (t : Int) : Int :=
  roundDiv (a.2 * (b.1 - a.1) + (b.2 - a.2) * (t - a.1)) (b.1 - a.1)

/-- f between samples: the segment whose ends enclose the time (R49). -/
def segmentAt : List (Int × Int) → Int → Int
  | a :: b :: rest, t => if t ≤ b.1 then lineAt a b t else segmentAt (b :: rest) t
  | [a], _ => a.2
  | [], _ => 0

/-- The two newest samples, oldest of them first. -/
def newestPair : List (Int × Int) → Option ((Int × Int) × (Int × Int))
  | [a, b] => some (a, b)
  | _ :: b :: rest => newestPair (b :: rest)
  | _ => none

/-- The focus function f, rounded to whole counts and held in the 24-bit range (R49, R50). The list is
the track, oldest sample first, times relative to the window's start. -/
def focusAt (track : List (Int × Int)) (xmax t : Int) : Int :=
  clamp (-8388608) 8388607 <|
    match track.head?, newestPair track with
    | some a, some (m, n) =>
      if t < a.1 then a.2
      else if n.1 < t then lineAt m n (min t (n.1 + xmax))
      else segmentAt track t
    | some a, none => a.2
    | none, _ => 0

/-- The breakpoints of a window of W microseconds: its ends, the samples strictly inside, and the limit
point when it is strictly inside and no sample's time (R50). They come in rising time. -/
def breakpoints (track : List (Int × Int)) (xmax w : Int) : List Int :=
  let inside := (track.map Prod.fst).filter (fun t => decide (0 < t) && decide (t < w))
  let limit := match newestPair track with
    | some (_, n) => [n.1 + xmax].filter
        (fun t => decide (0 < t) && decide (t < w) && !inside.contains t)
    | none => []
  0 :: inside ++ limit ++ [w]

/-- The trapezoid sum over breakpoints and their values (R51). -/
def trapezoid : List (Int × Int) → Int
  | a :: b :: rest => (b.1 - a.1) * (a.2 + b.2) + trapezoid (b :: rest)
  | _ => 0

/-- The exposure-mean focus of a window (R51). -/
def meanFocus (track : List (Int × Int)) (xmax w : Int) : Int :=
  roundDiv (trapezoid ((breakpoints track xmax w).map (fun t => (t, focusAt track xmax t)))) (2 * w)

/-- The axis record of a snapshot is usable: mode TRACK, LIVE or STALE (R40). -/
def usableState (mode : AxisMode) (st : AxisState) : Bool :=
  mode == .track && (st == .live || st == .stale)

/-- The focus cases (R47). -/
inductive FocusCase where
  | usable | held | fixed | off
deriving DecidableEq, Repr

/-- The focus case of a snapshot (R47). -/
def focusCase (s : Snapshot) : FocusCase :=
  match s.settings.focus.mode with
  | .track =>
    if usableState .track s.axes.focus.st && !s.axes.focus.track.isEmpty then .usable else .held
  | .fixed => .fixed
  | .off => .off

/-! ## Stage 2: positions to coordinates -/

/-- The segment of lowest index that encloses the position, ends included (R54). -/
def mapSegment : List (Int × Nat) → Int → Nat
  | (c, v) :: (c', v') :: rest, p =>
    if (c ≤ p ∧ p ≤ c') ∨ (c' ≤ p ∧ p ≤ c) then
      ((v : Int) + roundQuot (((v' : Int) - v) * (p - c)) (c' - c)).toNat
    else mapSegment ((c', v') :: rest) p
  | [(_, v)], _ => v
  | [], _ => 0

/-- A position mapped to a coordinate, and whether it was held at an end (R54, R55). -/
def mapPosition (points : List (Int × Nat)) (p : Int) : Nat × Bool :=
  match points.head?, points.getLast? with
  | some (c0, v0), some (cl, vl) =>
    if c0 < cl then
      if p < c0 then (v0, true) else if cl < p then (vl, true) else (mapSegment points p, false)
    else
      if c0 < p then (v0, true) else if p < cl then (vl, true) else (mapSegment points p, false)
  | _, _ => (0, false)

/-- The mean of the newest N positions of a track, rounded once (R41). -/
def meanPosition (n : Nat) (track : List Sample) : Int :=
  let newest := track.drop (track.length - n)
  roundDiv (newest.map (fun x => x.pos.toInt)).sum newest.length

/-- The coordinate of the iris or zoom axis: value, held at a map edge, AUX_HELD, and the value again
when the axis was usable (R57, R58, R74). -/
def auxCoordinate (cfg : AxisSettings) (r : AxisRec) (held : Option Nat) :
    Nat × Bool × Bool × Option Nat :=
  match cfg.mode with
  | .fixed => (cfg.fixedCoord, false, false, none)
  | .off => (0, false, false, none)
  | .track =>
    if usableState .track r.st then
      let (v, edge) := mapPosition cfg.points (meanPosition cfg.average r.track)
      (v, edge, false, some v)
    else (held.getD 0, false, true, none)

/-! ## Stage 3: cells and fractions -/

/-- The cell of a coordinate in a node list, and the fraction across it, truncated (R59). -/
def cell (xs : List Nat) (x : Nat) : Nat × Nat :=
  if xs.length ≤ 1 then (0, 0)
  else
    let i := ((List.range (xs.length - 1)).filter (fun i => nth xs i ≤ x)).getLastD 0
    (i, (x - nth xs i) * 65536 / (nth xs (i + 1) - nth xs i))

/-- The upper node of a cell; in a one-position list node 0 itself (R60). -/
def upperNode (xs : List Nat) (i : Nat) : Nat := if xs.length ≤ 1 then i else i + 1

/-- The two nodes of a cell with their weights: 65,536 − φ and φ (R61, R66). -/
def cellCorners (xs : List Nat) (x : Nat) : List (Nat × Int) :=
  let (i, phi) := cell xs x
  [(i, 65536 - (phi : Int)), (upperNode xs i, (phi : Int))]

/-! ## Stage 4: breathing -/

/-- One breathing value interpolated bilinearly at (u, z), rounded once (R61). -/
def breathingAt (p : List Word) (value u z : Nat) : Int :=
  roundDiv
    ((cellCorners (profZoom p) z).flatMap (fun (j, wz) =>
      (cellCorners (profBreathingFocus p) u).map (fun (i, wu) =>
        wu * wz * breathingNode p (j * profNub p + i) value))).sum
    (2 ^ 32)

/-- A scale before its bounds: round(H × Mref × 256 / M) (R63). -/
def rawScale (headroom : Nat) (mref m : Int) : Int := roundDiv (headroom * mref * 256) m

/-- What stage 4 hands on. -/
structure Breathing where
  sx : Int
  sy : Int
  shx : Int
  shy : Int
  scaleLimit : Bool
  shiftLimit : Bool
deriving DecidableEq, Repr

/-- Unity scale and no shift (R65, R70). -/
def Breathing.unity : Breathing :=
  { sx := Config.unityScale, sy := Config.unityScale, shx := 0, shy := 0, scaleLimit := false,
    shiftLimit := false }

/-- Stage 4 (R61 to R65). -/
def stage4 (c : Settings) (p : List Word) (u z : Nat) : Breathing :=
  if c.breathingOn then
    let value (n at' : Nat) := breathingAt p n at' z
    let rx := rawScale c.headroom (value 0 c.lockCoord) (value 0 u)
    let ry := rawScale c.headroom (value 1 c.lockCoord) (value 1 u)
    let hx := -(value 2 u - value 2 c.lockCoord)
    let hy := -(value 3 u - value 3 c.lockCoord)
    let sx := clamp Config.unityScale c.scaleMax rx
    let sy := clamp Config.unityScale c.scaleMax ry
    let shx := clamp (-c.shiftMax) c.shiftMax hx
    let shy := clamp (-c.shiftMax) c.shiftMax hy
    { sx := sx, sy := sy, shx := shx, shy := shy,
      scaleLimit := sx != rx || sy != ry, shiftLimit := shx != hx || shy != hy }
  else Breathing.unity

/-! ## Stage 5: shading -/

/-- One shading coefficient interpolated trilinearly at (u, z, a), rounded once (R66). -/
def shadingAt (p : List Word) (value u z a : Nat) : Int :=
  roundDiv
    ((cellCorners (profIris p) a).flatMap (fun (m, wa) =>
      (cellCorners (profZoom p) z).flatMap (fun (j, wz) =>
        (cellCorners (profShadingFocus p) u).map (fun (i, wu) =>
          wu * wz * wa * shadingNode p ((m * profNz p + j) * profNuv p + i) value)))).sum
    (2 ^ 48)

/-- The shading strength (R67). -/
def strengthScaled (sigma : Nat) (k : Int) : Int := roundDiv (k * sigma) 256

/-- The gain ceiling at the corner: the three coefficients and GAIN_LIMIT (R68). -/
def gainCeiling (gmax : Nat) (k1 k2 k3 : Int) : Int × Int × Int × Bool :=
  let e := k1 + k2 + k3
  if 4096 + e ≤ gmax then (k1, k2, k3, false)
  else
    let rescale (k : Int) : Int := k * ((gmax : Int) - 4096) / e
    (rescale k1, rescale k2, rescale k3, true)

/-- Stage 5 (R66 to R69). -/
def stage5 (c : Settings) (p : List Word) (u z a : Nat) : Int × Int × Int × Bool :=
  if c.shadingOn ∧ c.shadingStrength ≠ 0 then
    let k (value : Nat) := strengthScaled c.shadingStrength (shadingAt p value u z a)
    gainCeiling c.gainMax (k 0) (k 1) (k 2)
  else (0, 0, 0, false)

/-! ## The record (R45, R70 to R74) -/

/-- What stage 1 and the focus half of stage 2 hand on (R47 to R56). -/
structure FocusResult where
  pMean : Int
  u : Nat
  mapEdge : Bool
  extrapolated : Bool
  limited : Bool
  early : Bool
  held : Bool
  fixed : Bool
  used : Option (Int × Nat)
deriving DecidableEq, Repr

/-- A focus result without flags. -/
def FocusResult.plain (p : Int) (u : Nat) : FocusResult :=
  { pMean := p, u := u, mapEdge := false, extrapolated := false, limited := false, early := false,
    held := false, fixed := false, used := none }

/-- The usable case: p̄ by integration, u through the map, the flags of the window (R49 to R52, R56). -/
def focusUsable (c : Settings) (track : List (Int × Int)) (w : Int) : FocusResult :=
  let xmax : Int := c.extrapLimit
  let p := meanFocus track xmax w
  let (u, edge) := mapPosition c.focus.points p
  let oldest := (track.head?.map Prod.fst).getD 0
  let newest := (track.getLast?.map Prod.fst).getD 0
  let several := decide (2 ≤ track.length)
  { pMean := p, u := u, mapEdge := edge,
    extrapolated := several && decide (newest < w) && decide (w ≤ newest + xmax),
    limited := if several then decide (newest + xmax < w) else decide (newest < w),
    early := decide (0 < oldest),
    held := false, fixed := false, used := some (p, u) }

/-- Stage 1 and the focus half of stage 2. -/
def focusStage (s : Snapshot) (ts te : Time) : FocusResult :=
  match focusCase s with
  | .usable => focusUsable s.settings (s.axes.focus.track.map (relSample ts)) (te - ts).toInt
  | .held =>
    { FocusResult.plain (s.held.pos.getD 0) (s.held.u.getD s.settings.lockCoord) with held := true }
  | .fixed => { FocusResult.plain 0 s.settings.focus.fixedCoord with fixed := true }
  | .off => FocusResult.plain 0 s.settings.lockCoord

/-- An identity band: profile not READY, or mount ABSENT (R70). -/
def isIdentity (s : Snapshot) : Bool := s.profile != .ready || s.mount == .absent

/-- The band computation (R45): the record's values and flags, LATE left clear for the Record Writer. -/
def computeBand (s : Snapshot) (ts te : Time) : BandResult :=
  let f := focusStage s ts te
  let (a, aEdge, aHeld, aUsed) := auxCoordinate s.settings.iris s.axes.iris s.held.a
  let (z, zEdge, zHeld, zUsed) := auxCoordinate s.settings.zoom s.axes.zoom s.held.z
  let identity := isIdentity s
  let b := if identity then Breathing.unity else stage4 s.settings s.store f.u z
  let (k1, k2, k3, limit) :=
    if identity then (0, 0, 0, false) else stage5 s.settings s.store f.u z a
  { pMean := f.pMean, u := f.u, z := z, a := a,
    sx := b.sx, sy := b.sy, shx := b.shx, shy := b.shy, k1 := k1, k2 := k2, k3 := k3,
    flags :=
      { extrapolated := f.extrapolated, limited := f.limited, early := f.early, held := f.held,
        fixed := f.fixed, mapEdge := f.mapEdge || aEdge || zEdge, auxHeld := aHeld || zHeld,
        scaleLimit := b.scaleLimit, shiftLimit := b.shiftLimit, gainLimit := limit,
        identity := identity,
        degraded := f.limited || f.early || f.held || identity, late := false },
    focusUsed := f.used, irisUsed := aUsed, zoomUsed := zUsed }

end Sys2Proof.Machine
end

