-- ==== Sys2Proof/Machine/ProfileOps.lean ====
section
/-! DEFINITION. The Profile Loader's operations (chapter 4): the checks of a header and a body, and how
loads start, fail, finish and bind. -/

namespace Sys2Proof.Machine

/-! ## Checks (R79, R80) -/

/-- The spans that a profile must stay clear of: the ring area of the settings in force, and that of
every frame begun and not yet closed, as its begin notice gives it (R79; DEDUCED, log 35). -/
def State.ringAreas (s : State) : List (Nat × Nat) :=
  let ofNotice : WorkItem → Option (Nat × Nat)
    | .opens n => some (n.ringBase, ringSize n.ringSlots n.bands)
    | .record _ | .ends _ _ => none
  let inForce := s.settings.toList.map (fun c => (c.ringBase, ringSize c.ringSlots c.bands))
  let opened := s.rw.openSlot.toList.map (fun o => (o.ringBase, ringSize o.ringSlots o.planned))
  let judged := match s.rw.work with
    | .judging n _ _ _ | .judged n _ _ _ => [(n.ringBase, ringSize n.ringSlots n.bands)]
    | _ => []
  inForce ++ opened ++ judged ++ s.rw.queue.filterMap ofNotice ++ s.ft.heldNotices.filterMap ofNotice

/-- The four dimensions of a header within their legal ranges (R75). -/
def shapeOk (h : List Word) : Bool :=
  within 2 32 (profNub h) && within 1 8 (profNz h) && within 2 16 (profNuv h) && within 1 6 (profNa h)

/-- The first check a header fails (R79). `areas` are the spans it must stay clear of. -/
def headerFailure (l : Load) (areas : List (Nat × Nat)) : Option FaultReason :=
  let n := profLength l.words
  if l.parityFailed then some .parity
  else if Config.memoryWords < l.base + n || areas.any (fun a => spansShare l.base n a.1 a.2) then
    some .layout
  else if profSerial l.words ≠ l.serial then some .serial
  else if !shapeOk l.words then some .shape
  else none

/-- A position list in shape: from 0 to 65,535, rising strictly; a one-position list holds 0 (R80). -/
def positionsOk (xs : List Nat) : Bool :=
  if xs.length = 1 then xs == [0]
  else xs.head? == some 0 && xs.getLast? == some 65535 && neighbours (fun a b => decide (a < b)) xs

/-- Magnifications within 8,192..32,767 (R75). -/
def magnificationOk (v : Int) : Bool := decide (8192 ≤ v) && decide (v ≤ 32767)

/-- Gain coefficients within −16,384..16,383 (R75). -/
def coefficientOk (v : Int) : Bool := decide (-16384 ≤ v) && decide (v ≤ 16383)

/-- The RANGE check of a whole profile (R80). -/
def nodesOk (p : List Word) : Bool :=
  (List.range (profNub p * profNz p)).all (fun n =>
    magnificationOk (breathingNode p n 0) && magnificationOk (breathingNode p n 1)) &&
  (List.range (profNuv p * profNz p * profNa p)).all (fun n =>
    (List.range 3).all (fun value => coefficientOk (shadingNode p n value)))

/-- The first check a fetched body fails (R80). -/
def bodyFailure (l : Load) : Option FaultReason :=
  let p := l.words
  if l.parityFailed then some .parity
  else if !([profZoom p, profBreathingFocus p, profShadingFocus p, profIris p].all positionsOk) then
    some .shape
  else if !nodesOk p then some .range
  else if wordSum p ≠ 0 then some .check
  else none

/-! ## The extent held (R86, R131) -/

/-- The extent the Profile Loader holds: the loaded one in READY and UNBOUND, the target's in LOADING
once the header has passed. -/
def ProfileLoader.heldExtent (pl : ProfileLoader) : Option (Nat × Nat) :=
  match pl.st with
  | .ready | .unbound => pl.loaded.map (fun l => (l.base, l.extent))
  | .loading => match pl.load with
    | some l => l.extent.map (fun n => (l.base, n))
    | none => none
  | .empty | .faulted => none

/-! ## Transitions -/

/-- The band in flight, if any, was taken before the profile entered READY (R12). -/
def Engine.markStale : Engine → Engine
  | .idle => .idle
  | .computing b => .computing { b with stale := true }
  | .handingOver b r => .handingOver { b with stale := true } r

/-- The profile enters READY: the held values become absent (R12, R82, R85). -/
def State.enterReady (s : State) : State :=
  (s.withPl { s.pl with st := .ready }).withBe
    { engine := s.be.engine.markStale, held := Held.none }

/-- The load in flight is over: its request is withdrawn and the result of a granted one will be
discarded (R77, R164), also when the load ends by a failure (R81; DESIGN CHOICE, log 44). -/
def State.dropLoad (s : State) : State :=
  (s.withPl { s.pl with load := none, awaiting := false }).withdraw .profileLoader

/-- A load fails (R81). -/
def State.loadFails (s : State) (l : Load) (why : FaultReason) : State :=
  let t := s.dropLoad
  (t.withPl { t.pl with
    st := .faulted, reason := why, failedSerial := l.serial, loaded := none }).raise .pfault

/-- A load finishes: the buffer becomes the store, and the state READY or UNBOUND by the mount and the
detach mark (R82). -/
def State.loadFinishes (s : State) (l : Load) : State :=
  let t := s.dropLoad
  let t := t.withPl { t.pl with
    st := .unbound, store := l.words,
    loaded := some { base := l.base, serial := profSerial l.words, extent := profLength l.words } }
  let t := t.raise .profile
  if s.ms.mount = .present ∧ ¬ l.detached then t.enterReady else t

/-- A load starts; one in flight is abandoned first (R77, R78). -/
def State.loadStarts (s : State) (c : Settings) : State :=
  let t := s.dropLoad
  t.withPl { t.pl with
    st := .loading, reason := .none,
    load := some
      { base := c.profileBase, serial := c.profileSerial, extent := none, phase := .header,
        detached := false, words := [], parityFailed := false } }

/-- The base and serial of settings differ from a pair. -/
def pairDiffers (c : Settings) (base : Nat) (serial : BitVec 32) : Bool :=
  c.profileBase != base || c.profileSerial != serial

/-- R77: settings coming in force start a load. -/
def ProfileLoader.startsLoad (pl : ProfileLoader) (c : Settings) : Bool :=
  c.profileReload ||
  match pl.st with
  | .empty | .faulted => true
  | .ready | .unbound => match pl.loaded with
    | some l => pairDiffers c l.base l.serial
    | none => true
  | .loading => match pl.load with
    | some l => pairDiffers c l.base l.serial
    | none => true

/-- The Profile Loader's decision at a frame start at which settings come in force: start a load (R77,
R78), bind an UNBOUND profile (R85), or judge a load in BODY or FINISHING against the new ring (R79). -/
def State.profileAdopts (s : State) (c : Settings) : State :=
  if s.pl.startsLoad c then s.loadStarts c
  else match s.pl.st, s.pl.load with
    | .unbound, _ => if s.ms.mount = .present then (s.raise .profile).enterReady else s
    | .loading, some l =>
      match l.phase, l.extent with
      | .body, some n | .finishing, some n =>
        if spansShare l.base n c.ringBase (ringSize c.ringSlots c.bands) then s.loadFails l .layout
        else s
      | _, _ => s
    | _, _ => s

/-- A detach unbinds a READY profile and marks a load in flight (R84). -/
def ProfileLoader.detach (pl : ProfileLoader) : ProfileLoader :=
  match pl.st with
  | .ready => { pl with st := .unbound }
  | .loading => { pl with load := pl.load.map (fun l => { l with detached := true }) }
  | .empty | .unbound | .faulted => pl

/-- A reset of the Profile Loader (R88, R89). -/
def ProfileLoader.cleared (pl : ProfileLoader) : ProfileLoader :=
  { pl with st := .empty, loaded := none, load := none, reason := .none, awaiting := false }

end Sys2Proof.Machine
end

