-- ==== Sys2Proof/Machine/ReaderOps.lean ====
section
/-! DEFINITION. The Settings Reader's operations (chapter 6): the look, the report, refusal and
acceptance. -/

namespace Sys2Proof.Machine

/-! ## The adoption report (R126, R135, R136, R137, R142; layout of R174) -/

/-- REPORT_PAGE, REPORT_SEQ, REPORT_FRAME, REPORT_DETAIL 0, REPORT_RESULT EXAMINING (R126). -/
def examiningReport (selector seq : Word) (frameNo : BitVec 32) : List WordWrite :=
  [(0x000A, selector), (0x000B, seq), (0x000C, hiWord frameNo), (0x000D, loWord frameNo),
   (0x0009, 0), (0x0008, 1)]

/-- REPORT_DETAIL and REPORT_RESULT of a refusal (R135). -/
def refusedReport (r : Refused) : List WordWrite := [(0x0009, natWord r.detail), (0x0008, natWord r.code)]

/-- REPORT_RESULT ACCEPTED (R136). -/
def acceptedReport : List WordWrite := [(0x0008, 2)]

/-- ADOPTED_PAGE, ADOPTED_SEQ, REPORT_FRAME, REPORT_RESULT IN_FORCE (R137). -/
def inForceReport (a : Adopted) (frameNo : BitVec 32) : List WordWrite :=
  [(0x000E, a.page), (0x000F, a.seq), (0x000C, hiWord frameNo), (0x000D, loWord frameNo), (0x0008, 3)]

/-- ADOPTED_PAGE 0, ADOPTED_SEQ 0, REPORT_RESULT 0 after a soft reset (R141, R142). -/
def resetReport : List WordWrite := [(0x000E, 0), (0x000F, 0), (0x0008, 0)]

/-- A report update joins the words still to be written. -/
def State.queueReport (s : State) (ws : List WordWrite) : State :=
  s.withSr { s.sr with report := s.sr.report ++ ws }

/-! ## The look (R125) -/

/-- The pair of a request is judged: an examination begins only for a pair that differs from the last
examined one (R124, R125). -/
def State.judgePair (s : State) (selector seq : Word) (seqParity : Bool) (frameNo : BitVec 32) : State :=
  if s.sr.lastPair = some (selector, seq) then s.withSr { s.sr with exam := .none }
  else s.withSr { s.sr with
    lastPair := some (selector, seq), exam := .found selector seq seqParity frameNo }

/-- SELECTOR has been read at the look (R125). -/
def State.selectorRead (s : State) (v : Stored) (frameNo : BitVec 32) : State :=
  if !v.good then (s.raise .parity).withSr { s.sr with exam := .none }
  else if v.data = 0 then s.withSr { s.sr with exam := .none }
  else if v.data = 1 ∨ v.data = 2 then s.withSr { s.sr with exam := .readSeq v.data frameNo }
  else s.judgePair v.data 0 false frameNo

/-- A page word has been read in the copy (R127): a word that fails parity ends the copy. -/
def State.pageWordRead (s : State) (v : Stored) : State :=
  match s.sr.exam with
  | .copying sel seq ws none =>
    s.withSr { s.sr with
      exam := if v.good then .copying sel seq (ws ++ [v.data]) none
              else .copying sel seq ws (some ws.length) }
  | _ => s

/-! ## Refusal and acceptance -/

/-- A refused examination ends (R135). -/
def State.refuse (s : State) (r : Refused) : State :=
  let t := (s.queueReport (refusedReport r)).raise .refuse
  t.withSr { t.sr with exam := .none }

/-- An accepted examination ends (R136). -/
def State.accept (s : State) (a : Adopted) : State :=
  let t := s.queueReport acceptedReport
  t.withSr { t.sr with exam := .none, pendingCopy := some a }

/-- A soft reset of the Settings Reader: what R142 clears, the report words it writes, every mirrored
field marked (R186). -/
def SettingsReader.softReset : SettingsReader :=
  { SettingsReader.reset with report := resetReport, marks := mirrorFields }

end Sys2Proof.Machine
end

