-- ==== Sys2Proof/Machine/Examinations.lean ====
section
/-! DEFINITION. The examination of a settings page (chapter 6). -/

namespace Sys2Proof.Machine

/-- A new request: the report reads EXAMINING, and the copy begins at word 1; a parity failure on word 0
ends it at once. A selector value outside 1..2 goes straight to the checks and is refused SELECTOR (R126,
R127, R128; DESIGN CHOICE, log 14). -/
def examinationBegins (s : State) : Option State :=
  match s.sr.exam with
  | .found sel seq seqParity frameNo =>
    let t := s.queueReport (examiningReport sel seq frameNo)
    if sel = 1 ∨ sel = 2 then
      some (t.withSr
        { t.sr with exam := .copying sel seq [seq] (if seqParity then some 0 else none) })
    else some (t.refuse { code := 17, detail := sel.toNat })
  | _ => none

/-- EXAMINATION_BEGIN (R126). -/
def execExaminationBegin (dt : Span) (s : State) : Host.Outcome State Fault Refusal :=
  runEvent dt examinationBegins s

/-- The copy is over: refused PARITY at the word that failed, or the whole copy is checked (R127 to
R136). -/
def copyDone (s : State) : Option State :=
  match s.sr.exam with
  | .copying _ _ _ (some offset) => some (s.refuse { code := 16, detail := offset })
  | .copying sel seq ws none =>
    if ws.length = Config.pageWords then
      match pageRefusal ws s.pl.heldExtent with
      | some r => some (s.refuse r)
      | none => some (s.accept { page := sel, seq := seq, settings := pageSettings ws })
    else none
  | _ => none

/-- PAGE_COPY_DONE (R127). -/
def execPageCopyDone (dt : Span) (s : State) : Host.Outcome State Fault Refusal :=
  runEvent dt copyDone s

end Sys2Proof.Machine
end

