-- ==== Sys2Proof/Machine/FrameOps.lean ====
section
/-! DEFINITION. The Frame Timer's and the Band Engine's operations (chapter 1): band tables, notices,
takes and releases, cuts, the end of a record's hand-over. -/

namespace Sys2Proof.Machine

/-! ## Geometry (R3, R4, R5) -/

/-- The geometry of the settings in force. -/
def Settings.geometry (c : Settings) : Geometry :=
  { rows := c.rows, bands := c.bands, lineTime := c.lineTime, readoutOffset := c.readoutOffset,
    exposure := c.exposure, releaseLead := c.releaseLead }

/-- First row of band b; band B's would be the row after the last (R4). -/
def firstRow (g : Geometry) (b : Nat) : Nat := b * g.rows / g.bands

/-- Last row of band b (R4). -/
def lastRow (g : Geometry) (b : Nat) : Nat := firstRow g (b + 1) - 1

/-- Centre row of band b, the lower of two middle rows (R4). -/
def centreRow (g : Geometry) (b : Nat) : Nat := (firstRow g b + lastRow g b) / 2

/-- Readout time of a row (R5). -/
def readoutTime (g : Geometry) (t0 : Time) (row : Nat) : Time :=
  t0 + micros (g.readoutOffset + row * g.lineTime / 256)

/-- The row of the band table for band b (R4, R5). -/
def bandTiming (g : Geometry) (t0 : Time) (b : Nat) : BandTiming :=
  let te := readoutTime g t0 (centreRow g b)
  let deadline := readoutTime g t0 (firstRow g b)
  { first := firstRow g b, last := lastRow g b, centre := centreRow g b, deadline := deadline,
    ts := te - micros g.exposure, te := te, release := deadline - micros g.releaseLead }

/-- The band table of a frame. -/
def bandTable (g : Geometry) (t0 : Time) : List BandTiming :=
  (List.range g.bands).map (bandTiming g t0)

/-! ## Notices (R14) -/

/-- The Frame Timer sends a notice to the Record Writer's queue, or holds it while a frame is CUTTING. -/
def State.sendNotice (s : State) (w : WorkItem) : State :=
  if s.ft.cutting.isSome then s.withFt { s.ft with heldNotices := s.ft.heldNotices ++ [w] }
  else s.withRw { s.rw with queue := s.rw.queue ++ [w] }

/-! ## Takes and releases (R6 to R9) -/

/-- What a band is computed from, taken now (R9). -/
def State.snapshot (s : State) (c : Settings) : Snapshot :=
  { axes := s.axes, profile := s.pl.st, store := s.pl.store, mount := s.ms.mount, settings := c,
    held := s.be.held }

/-- The Band Engine takes a band of the current frame and enters COMPUTING (R8). -/
def State.takeBand (s : State) (f : Frame) (b : Nat) : State :=
  match f.table[b]? with
  | some t =>
    s.withBe { s.be with
      engine := .computing
        { frameNo := f.number, band := b, deadline := t.deadline, ts := t.ts, te := t.te,
          snapshot := s.snapshot f.settings, stale := false } }
  | none => s

/-- A band is raised: the next-release index passes it, and it is taken if the engine is IDLE and joins
the release list otherwise (R6, R7). -/
def State.raiseBand (s : State) (f : Frame) (b : Nat) : State :=
  let t := s.withFt { s.ft with nextRelease := b + 1 }
  match s.be.engine with
  | .idle => t.takeBand f b
  | .computing _ | .handingOver _ _ => t.withFt { t.ft with released := t.ft.released ++ [b] }

/-- The frame and band raised next: the current frame is OPEN and has a band not yet raised (R6). -/
def State.nextBand (s : State) : Option (Frame × BandTiming) :=
  match s.ft.current with
  | some f =>
    if f.condition = .opened then (f.table[s.ft.nextRelease]?).map (fun t => (f, t)) else none
  | none => none

/-- Raise in band order the bands whose release time is at or before a time, at most `n` of them (R6). -/
def State.raiseDue (s : State) (upTo : Time) : Nat → State
  | 0 => s
  | n + 1 =>
    match s.nextBand with
    | some (f, t) =>
      if reached upTo t.release then (s.raiseBand f s.ft.nextRelease).raiseDue upTo n else s
    | none => s

/-- An IDLE engine takes the oldest waiting band (R8, R10). -/
def State.takeWaiting (s : State) : State :=
  match s.be.engine, s.ft.current, s.ft.released with
  | .idle, some f, b :: rest => (s.withFt { s.ft with released := rest }).takeBand f b
  | _, _, _ => s

/-! ## Cuts (R14, R15, R17) -/

/-- The engine holds a band of this frame. -/
def Engine.holds (e : Engine) (number : BitVec 32) : Bool :=
  match e with
  | .idle => false
  | .computing b | .handingOver b _ => b.frameNo == number

/-- An OPEN frame is cut: the release list is emptied and unraised bands are discarded. With a band in
flight it becomes CUTTING; otherwise it is ENDED and its CUT end notice is sent or held (R14). -/
def State.cutFrame (s : State) : State :=
  match s.ft.current with
  | some f =>
    if f.condition = .opened then
      if s.be.engine.holds f.number then
        s.withFt { s.ft with
          current := some { f with condition := .cutting }, released := [],
          cutting := some f.number }
      else
        (s.withFt { s.ft with
          current := some { f with condition := .ended }, released := [] }).sendNotice
          (.ends f.number true)
    else s
  | none => s

/-- A frame begins (R3): `reset` is the ring-reset mark its begin notice carries. -/
def State.beginFrame (s : State) (a : Adopted) (reset : Bool) : State :=
  let s := s.cutFrame
  let c := a.settings
  let number := s.ft.frameNo + 1
  let t := s.withFt { s.ft with
    frameNo := number, nextRelease := 0, released := [],
    current := some
      { number := number, t0 := s.ft.t0, geom := c.geometry, table := bandTable c.geometry s.ft.t0,
        settings := c, condition := .opened } }
  let t := t.sendNotice (.opens
    { number := number, t0 := s.ft.t0, bands := c.bands, ringBase := c.ringBase,
      ringSlots := c.ringSlots, seq := a.seq, ringReset := reset })
  t.raiseDue s.ft.t0 c.bands

/-! ## The end of a hand-over (R10, R12, R13, R14) -/

/-- The held values after a band was written: the values it obtained from usable tracks, the others as
they were (R12, R74). -/
def Held.update (h : Held) (r : BandResult) : Held :=
  { pos := (r.focusUsed.map Prod.fst).orElse (fun _ => h.pos),
    u := (r.focusUsed.map Prod.snd).orElse (fun _ => h.u),
    a := r.irisUsed.orElse (fun _ => h.a),
    z := r.zoomUsed.orElse (fun _ => h.z) }

/-- The engine hears that its record is written: it keeps its held values and returns to IDLE. A band
taken before the profile last entered READY updates nothing (R10, R12). -/
def BandEngine.recordWritten (be : BandEngine) : BandEngine :=
  match be.engine with
  | .handingOver b r =>
    { engine := .idle, held := if b.stale then be.held else be.held.update r }
  | .idle | .computing _ => be

/-- The Frame Timer hears that a record is written: the last record of a CUTTING frame sends its CUT end
notice and then the held notices (R14); the record of band B−1 of the OPEN frame ends it complete (R13). -/
def State.frameHears (s : State) (r : RecordItem) : State :=
  if s.ft.cutting = some r.frameNo then
    let ended := s.ft.current.map (fun f =>
      if f.number = r.frameNo then { f with condition := .ended } else f)
    (s.withRw { s.rw with
      queue := s.rw.queue ++ .ends r.frameNo true :: s.ft.heldNotices }).withFt
      { s.ft with current := ended, heldNotices := [], cutting := none }
  else match s.ft.current with
    | some f =>
      if f.condition = .opened ∧ f.number = r.frameNo ∧ r.band + 1 = f.geom.bands then
        (s.withFt { s.ft with current := some { f with condition := .ended } }).sendNotice
          (.ends f.number false)
      else s
    | none => s

/-! ## Resets -/

/-- A soft reset of the Frame Timer: T0 keeps its value (R20). -/
def FrameTimer.softReset (ft : FrameTimer) : FrameTimer := { FrameTimer.reset with t0 := ft.t0 }

end Sys2Proof.Machine
end

