-- ==== Sys2Proof/Machine/Tracker.lean ====
section
/-! DEFINITION. The Axis Tracker's operations (chapter 2): what completions, notes, breaks, stuck
periods, detaches and adoptions do to the axis records. -/

namespace Sys2Proof.Machine

/-- Capacity of an axis's track (R27). -/
def trackCap : Axis → Nat
  | .focus => 64
  | .iris => 8
  | .zoom => 8

/-- A track restarts: SEEKING, emptied, counts 0, with the blanking given (R30, R33, R34). -/
def AxisRec.restart (r : AxisRec) (b : Blanking) : AxisRec :=
  { r with st := .seeking, track := [], misses := 0, good := 0, blanking := b }

/-- A sample offered to a track joins it when it is later than the newest, and the oldest leaves a full
track (R27). -/
def offerSample (cap : Nat) (t : List Sample) (x : Sample) : List Sample :=
  match t.getLast? with
  | none => [x]
  | some n => if later x.time n.time then (t ++ [x]).drop (t.length + 1 - cap) else t

/-- One good reply toward qualification, from a good count (R26): LIVE when the count reaches Q. -/
def AxisRec.qualify (r : AxisRec) (q good : Nat) : AxisRec :=
  { r with good := good, st := if q ≤ good then .live else .qualifying }

/-- The state after a good reply (R26). -/
def AxisRec.advance (r : AxisRec) (q : Nat) : AxisRec :=
  match r.st with
  | .seeking | .lost => r.qualify q 1
  | .qualifying => r.qualify q (r.good + 1)
  | .stale => { r with st := .live }
  | .live | .idle | .fixed => r

/-- A good reply (R26, R27). -/
def AxisRec.goodReply (r : AxisRec) (cap q : Nat) (x : Sample) (status : Byte) : AxisRec :=
  let r := { r with misses := 0, unitStatus := status, lastPos := x.pos, lastCompletion := .ok }
  let r := r.advance q
  { r with track := offerSample cap r.track x }

/-- LOST_MISSES and STALE_MISSES judged against the miss count (R24, R28): LOST before STALE. -/
def AxisRec.judgeMisses (r : AxisRec) (stale lost : Nat) : AxisRec :=
  match r.st with
  | .seeking | .qualifying | .stale => if lost ≤ r.misses then { r with st := .lost } else r
  | .live =>
    if lost ≤ r.misses then { r with st := .lost }
    else if stale ≤ r.misses then { r with st := .stale } else r
  | .lost | .idle | .fixed => r

/-- A bad completion (R28): not counted while BLANKING. -/
def AxisRec.badCompletion (r : AxisRec) (stale lost : Nat) (c : Completion) : AxisRec :=
  let r := { r with lastCompletion := c }
  match r.blanking with
  | .notBlanking =>
    let r := { r with
      misses := min 255 (r.misses + 1), good := if r.st = AxisState.qualifying then 0 else r.good }
    r.judgeMisses stale lost
  | .pending _ | .until _ => r

/-- What a completion does to the axis it is taken for (R25 to R29). `reply` is the sample and the status
byte of a good reply. -/
def AxisRec.complete (r : AxisRec) (cap : Nat) (cfg : AxisSettings) (c : Completion)
    (reply : Option (Sample × Byte)) : AxisRec :=
  match c with
  | .ok => match reply with
    | some (x, status) => r.goodReply cap cfg.qualify x status
    | none => r
  | .noReply | .checkFault | .framing | .bitFault =>
    r.badCompletion cfg.staleMisses cfg.lostMisses c
  | .lostArb | .skipped | .broken => { r with lastCompletion := c }
  | .none => r

/-- A note taken for the axis (R35, R36). A FAULT note zeroes the good count of an axis that is LOST already
too (DESIGN CHOICE, log 40). -/
def AxisRec.note (r : AxisRec) (code : NoteCode) (pos : Option Counts) : AxisRec :=
  let r := { r with lastNote := code, lastPos := pos.getD r.lastPos }
  match code with
  | .none | .endstop => r
  | .fault => { r with st := .lost, good := 0 }
  | .rezero => { r with st := .qualifying, track := [], good := 0 }

/-- A break's end sets the expiry of pending blanking, by the BLANK_TIME the period began with (R24, R30). -/
def AxisRec.breakEnd (r : AxisRec) (expiry : Nat → Time) : AxisRec :=
  match r.blanking with
  | .pending ms => { r with blanking := .until (expiry ms) }
  | .notBlanking | .until _ => r

/-- The record an axis takes when its mode or unit changes (R22, R23). -/
def AxisRec.ofMode : AxisMode → AxisRec
  | .off => AxisRec.idle
  | .track => { AxisRec.idle with st := .seeking }
  | .fixed => { AxisRec.idle with st := .fixed }

/-- An adoption changes an axis's MODE, or keeps it in TRACK with a different UNIT (R23). -/
def axisChanged (oldMode : AxisMode) (oldUnit : Nat) (new : AxisSettings) : Bool :=
  new.mode != oldMode || (new.mode == .track && new.unit != oldUnit)

/-- New QUALIFY, STALE_MISSES and LOST_MISSES applied to the counts held (R24). -/
def AxisRec.applyThresholds (r : AxisRec) (new : AxisSettings) : AxisRec :=
  let r := if r.st = AxisState.qualifying ∧ new.qualify ≤ r.good then { r with st := .live } else r
  r.judgeMisses new.staleMisses new.lostMisses

/-- What settings coming in force do to an axis record (R23, R24). -/
def AxisRec.adopt (r : AxisRec) (oldMode : AxisMode) (oldUnit : Nat) (new : AxisSettings) : AxisRec :=
  if axisChanged oldMode oldUnit new then AxisRec.ofMode new.mode else r.applyThresholds new

/-! ## On the whole state -/

/-- An axis crossed into or out of LOST (R37). -/
def lostCrossed (old new : AxisRec) : Bool := (old.st == .lost) != (new.st == .lost)

/-- An event of R37 replaces the axis records; the cause AXIS is raised once if any axis went into or
out of LOST. -/
def State.moveAxes (s : State) (f : Axis → AxisRec → AxisRec) : State :=
  let new : Axes :=
    { focus := f .focus s.axes.focus, iris := f .iris s.axes.iris, zoom := f .zoom s.axes.zoom }
  (s.withAxes new).raiseIf
    (lostCrossed s.axes.focus new.focus || lostCrossed s.axes.iris new.iris ||
      lostCrossed s.axes.zoom new.zoom) .axis

/-- An event that acts on every axis in mode TRACK. -/
def State.moveTracked (s : State) (f : AxisRec → AxisRec) : State :=
  s.moveAxes (fun x r => if s.tracks x then f r else r)

/-- A completion is delivered: it is taken for the axis it names if that axis is in mode TRACK on the
unit carried with it, and discarded otherwise (R25). -/
def State.deliver (s : State) (x : Axis) (unit : Nat) (c : Completion)
    (reply : Option (Sample × Byte)) : State :=
  match s.sr.inForce with
  | some a =>
    let cfg := a.settings.axis x
    if cfg.mode = .track ∧ cfg.unit = unit then
      s.moveAxes (fun y r => if y = x then r.complete (trackCap x) cfg c reply else r)
    else s
  | none => s

/-- A NOTE is delivered: taken for the axis in mode TRACK on its address, ignored otherwise (R35). -/
def State.deliverNote (s : State) (addr : Nat) (code : NoteCode) (pos : Option Counts) : State :=
  s.moveAxes (fun x r => if s.tracks x ∧ s.unit x = addr then r.note code pos else r)

/-- A break begins, and a blanking period with it (R30). -/
def State.axesBreakBegin (s : State) : State := s.moveTracked (·.restart (.pending s.blankTime))

/-- A break ends (R30): a pending expiry is set by the BLANK_TIME in force when the period began (R24, R139;
DEDUCED, log 39). -/
def State.axesBreakEnd (s : State) : State := s.moveAxes (fun _ r => r.breakEnd s.expiryAfter)

/-- A stuck period begins (R32). -/
def State.axesStuck (s : State) : State := s.moveTracked (fun r => { r with st := .lost })

/-- A stuck period ends (R33). -/
def State.axesStuckEnd (s : State) : State := s.moveTracked (·.restart (.until s.blankUntil))

/-- A break is on the wire: begun and not yet ended, sent or sensed (R34, R117). -/
def Link.breakOnWire (lc : Link) : Bool :=
  match lc.st with
  | .breakTx => lc.breakEnd.isSome
  | .breakRx => !lc.breakOver
  | _ => false

/-- A detach (R34): the expiry is pending while a break is on the wire, and set otherwise. -/
def State.axesDetach (s : State) : State :=
  s.moveTracked (·.restart (if s.lc.breakOnWire then .pending s.blankTime else .until s.blankUntil))

/-- Settings come in force: each axis is reset or has its thresholds applied (R23, R24). `old` gives the
modes and units before. -/
def State.axesAdopt (s : State) (oldMode : Axis → AxisMode) (oldUnit : Axis → Nat) (new : Settings) :
    State :=
  s.moveAxes (fun x r => r.adopt (oldMode x) (oldUnit x) (new.axis x))

end Sys2Proof.Machine
end

