-- ==== Sys2Proof/Machine/LinkOps.lean ====
section
/-! DEFINITION. The Link Controller's operations (chapter 5): starting and ending MARKs, breaks, the
free link, going OFF. -/

namespace Sys2Proof.Machine

/-! ## MARKs -/

/-- A MARK starts: the sequence advances and the transaction opens with pending code OK (R100, R103). `r`
reads back the part's own frame from the falling edge of its LEAD, another node's when it joins. -/
def State.startMark (s : State) (x : Axis) (unit : Nat) (r : Reading) : State :=
  s.withLc { s.lc with
    st := .sending, seq := s.lc.seq + 1, waiting := none, rx := none, reading := some r,
    dominant := none,
    trans := some
      { axis := x, unit := unit, seq := s.lc.seq + 1, code := .ok, windowAt := none,
        sampleTime := none, reply := none, interpreted := true } }

/-- A LEAD that the part begins now. -/
def State.ownLead (s : State) : Reading := { start := s.clk.tb, bits := [] }

/-- The link is free: a waiting MARK starts, or the link enters IDLE (R106, R108, R111). -/
def State.linkFree (s : State) : State :=
  match s.lc.waiting with
  | some (x, unit) => s.startMark x unit s.ownLead
  | none => s.withLc { s.lc with st := .idle, rx := none, reading := none, dominant := none }

/-- Another node's LEAD can be joined: it began on a free wire, is in its dominant part, and its third bit
middle has not passed (R100; DEDUCED, log 24). A REPLY-LEAD is no LEAD and begins on no free wire: a MARK due
in a reply waits (R108, R111). -/
def State.canJoin (s : State) (f : RxFrame) (r : Reading) : Bool :=
  f.joinable && f.interpreted && !f.replied && s.wire.level == .low && decide (r.bits.length < 3) &&
    r.leadOk

/-- A MARK becomes due: it starts, joins a LEAD, or waits (R111). -/
def State.markDue (s : State) (x : Axis) (unit : Nat) : State :=
  match s.lc.st with
  | .idle => s.startMark x unit s.ownLead
  | .receiving => match s.lc.rx, s.lc.reading with
    | some f, some r =>
      if s.canJoin f r then s.startMark x unit r
      else s.withLc { s.lc with waiting := some (x, unit) }
    | _, _ => s.withLc { s.lc with waiting := some (x, unit) }
  | .sending | .awaitReply => s.withLc { s.lc with waiting := some (x, unit) }
  | .off | .breakTx | .breakRx | .stuck => s

/-- The pending code holds the first fault found in the transaction (R106). -/
def Transaction.fault (t : Transaction) (c : Completion) : Transaction :=
  if t.code = .ok then { t with code := c } else t

/-- The sample and status byte a transaction carries with code OK (R106). -/
def Transaction.carried (t : Transaction) : Option (Sample × Byte) :=
  match t.sampleTime, t.reply with
  | some at', some (pos, status) => some ({ time := at', pos := pos }, status)
  | _, _ => none

/-- A transaction ends: one completion is delivered with its pending code, and the link is free
(R106, R111). -/
def State.endTransaction (s : State) (t : Transaction) : State :=
  let s := s.withLc { s.lc with trans := none }
  (s.deliver t.axis t.unit t.code t.carried).linkFree

/-! ## Breaks -/

/-- A transaction in flight and a waiting MARK end with the completion BREAK (R114, R116). -/
def State.breakMarks (s : State) : State :=
  let t := match s.lc.trans with
    | some t => s.deliver t.axis t.unit .broken none
    | none => s
  let w := match s.lc.waiting with
    | some (x, unit) => t.deliver x unit .broken none
    | none => t
  w.withLc { w.lc with trans := none, waiting := none, rx := none }

/-- The part begins a break of 40 bit times at the rate in force (R116). -/
def State.sendBreak (s : State) : State :=
  let t := s.breakMarks
  (t.withLc { t.lc with
    st := .breakTx, tick := none, reading := none, dominant := none,
    breakEnd := some (t.clk.tb + t.bits 40), breakOver := false }).axesBreakBegin

/-- A sensed break is recognised: its level has been present at a bound position (R113, R114). -/
def State.senseBreak (s : State) : State :=
  let t := s.breakMarks
  (t.withLc { t.lc with
    st := .breakRx, tick := none, reading := none,
    dominant := some { length := s.held, bound := true },
    breakEnd := none, breakOver := false }).axesBreakBegin

/-- A detach asks for a break (R34, R93, R116, R117): none is sent while the link is OFF or STUCK, nor
while a break is on the wire. In the six bit times after a break has ended one is sent (DEDUCED, log 16), and
a break that is owed then stays owed (DESIGN CHOICE, log 43). -/
def State.breakForDetach (s : State) : State :=
  match s.lc.st with
  | .idle | .sending | .awaitReply | .receiving => s.sendBreak
  | .breakTx | .breakRx => if s.lc.breakOnWire then s else s.sendBreak
  | .off | .stuck => s

/-- A change of LINK_RATE asks for a break at the new rate (R112, R116, R117). In BREAK_TX the break
being driven goes on and ends 40 bit times after now, with R30 applied to every TRACK axis as R23 states;
once it has been released a new one begins (DESIGN CHOICE, log 28). In BREAK_RX and STUCK the break is
owed. -/
def State.breakForRate (s : State) : State :=
  match s.lc.st with
  | .idle | .sending | .awaitReply | .receiving => s.sendBreak
  | .breakTx =>
    if s.lc.breakEnd.isSome then
      (s.withLc { s.lc with breakEnd := some (s.clk.tb + s.bits 40) }).axesBreakBegin
    else s.sendBreak
  | .breakRx | .stuck => s.withLc { s.lc with owed := true }
  | .off => s

/-- The link enters IDLE after a break or a stuck period and the mark tick timer restarts (R109); an
owed break is sent instead (R115, R117, R119). -/
def State.linkAfterBreak (s : State) : State :=
  let t := s.withLc { s.lc with
    st := .idle, tick := s.nextTick, dominant := none, breakEnd := none, breakOver := false }
  if s.lc.owed then (t.withLc { t.lc with owed := false }).sendBreak else t

/-- A frame start at which settings come in force starts a STOPPED timer when the link is in IDLE,
SENDING, AWAIT_REPLY or RECEIVING (R109). -/
def State.startTimer (s : State) : State :=
  match s.lc.st, s.lc.tick with
  | .idle, none | .sending, none | .awaitReply, none | .receiving, none =>
    s.withLc { s.lc with tick := s.nextTick }
  | _, _ => s

/-- The link goes OFF (R120): everything in progress is cut off without a report. -/
def Link.goOff (lc : Link) : Link :=
  { lc with
    st := .off, tick := none, waiting := none, trans := none, rx := none, reading := none,
    dominant := none, owed := false, breakEnd := none, breakOver := false }

/-- A soft reset of the Link Controller (R122): the mark sequence keeps its value. -/
def Link.softReset (lc : Link) : Link := { lc.goOff with pointer := 0 }

end Sys2Proof.Machine
end

