-- ==== Sys2Proof/Machine/Frames.lean ====
section
/-! DEFINITION. Frame starts, releases, the end of a band computation, the frame watchdog (chapter 1). -/

namespace Sys2Proof.Machine

/-! ## Frame starts (R1, R3, R16, R125, R137, R187) -/

/-- A pending copy comes in force: the previous rate is recorded, the report written and ADOPT raised
(R137). `frameNo` is the frame number after the frame start's own changes. -/
def State.comesInForce (s : State) (a : Adopted) (frameNo : BitVec 32) : State :=
  let t := s.withSr { s.sr with prevRate := s.rate, inForce := some a, pendingCopy := none }
  (t.queueReport (inForceReport a frameNo)).raise .adopt

/-- What the blocks do with settings that come in force (R138, R139): the axes, the profile loader, the
link. `old` is the state before them. An axis field that the first of these changed is marked then, since
what follows may change it back (R192, R193). -/
def State.servesSettings (s old : State) (c : Settings) : State :=
  let t := ((s.axesAdopt old.mode old.unit c).markChanged old).profileAdopts c
  let t := if c.linkRate = old.rate then t else t.breakForRate
  t.startTimer

/-- RING_BASE or RING_SLOTS differs from the value in force before (R3, R138, R145). -/
def ringChanged (old : Option Settings) (c : Settings) : Bool :=
  match old with
  | some o => o.ringBase != c.ringBase || o.ringSlots != c.ringSlots
  | none => true

/-- A frame start brings a pending copy in force and serves it to the blocks (R137 to R139). In every
case where it does, the frame start begins a frame, whose number the report carries. -/
def State.adoptPending (s : State) : State :=
  match s.sr.pendingCopy with
  | some a => (s.comesInForce a (s.ft.frameNo + 1)).servesSettings s a.settings
  | none => s

/-- The frame start's changes of part state and frame (R3, R16, R187): with settings in force the part is
RUNNING, a frame begins and the watchdog restarts. `old` is the state before the frame start. -/
def State.frameOrNone (s old : State) : State :=
  match s.sr.inForce with
  | some a =>
    let t := s.withAl { s.al with part := .running }
    let t := t.beginFrame a
      (old.al.part == .armed || ringChanged old.settings a.settings)
    t.withFt { t.ft with watchdog := some (t.ft.t0 + micros a.settings.frameTimeout) }
  | none => s

/-- The look for a request begins when no examination is in flight (R125). -/
def State.beginLook (s : State) : State :=
  match s.sr.exam with
  | .none => s.withSr { s.sr with exam := .readSelector s.ft.frameNo }
  | _ => s

/-- A rising edge on FRAME is recognised: FRAME has been high for 1 µs after having been low for at least 1 µs
since the last edge that was taken, or one of the two was a pulse shorter than 1 µs and the edge is taken all the
same (R1; DESIGN CHOICE, log 21). -/
def State.frameRecognised (s : State) (highFor : Time) : Bool :=
  let lawful := decide (highFor.toNat = 1) && decide (highFor.toNat + 1 ≤ s.fi.since)
  let short := decide (highFor.toNat = 0) || (decide (highFor.toNat = 1) && decide (s.fi.since = 1))
  lawful || short

/-- A recognised rising edge on FRAME is a frame start in ARMED, RUNNING and FRAMELESS, with T0 the moment the
high level was first seen (R1). -/
def State.frameEdge (s : State) (highFor : Time) : Option State :=
  if s.clk.resetn && s.al.part.live && s.frameRecognised highFor then
    let u := s.withFi { since := 0 }
    let t := (u.withFt { u.ft with t0 := u.clk.tb - highFor }).adoptPending
    some (t.frameOrNone s).beginLook
  else none

/-- FRAME_START (R1). -/
def execFrameStart (dt : Span) (highFor : Time) (s : State) : Host.Outcome State Fault Refusal :=
  runEvent dt (·.frameEdge highFor) s

/-! ## Releases and computations (R6, R8) -/

/-- The release time of the next band is reached: the band is raised (R6). -/
def bandReleased (s : State) : Option State :=
  match s.nextBand with
  | some (f, t) =>
    if reached s.clk.tb t.release then some (s.raiseBand f s.ft.nextRelease) else none
  | none => none

/-- BAND_RELEASE (R6). -/
def execBandRelease (dt : Span) (s : State) : Host.Outcome State Fault Refusal :=
  runEvent dt bandReleased s

/-- The engine hands a computed record to the Record Writer (R8). -/
def State.handOver (s : State) (b : InFlight) (r : BandResult) : State :=
  (s.withBe { s.be with engine := .handingOver b r }).withRw
    { s.rw with queue := s.rw.queue ++
        [.record { frameNo := b.frameNo, band := b.band, deadline := b.deadline, result := r }] }

/-- A load waiting in FINISHING ends with the computation (R82). -/
def State.endFinishing (s : State) : State :=
  match s.pl.load with
  | some l => if l.phase = .finishing then s.loadFinishes l else s
  | none => s

/-- A band computation ends (R8, R45, R82). -/
def bandComputed (s : State) : Option State :=
  match s.be.engine with
  | .computing b => some (s.handOver b (computeBand b.snapshot b.ts b.te)).endFinishing
  | .idle | .handingOver _ _ => none

/-- BAND_COMPUTE_END (R8). -/
def execBandComputeEnd (dt : Span) (s : State) : Host.Outcome State Fault Refusal :=
  runEvent dt bandComputed s

/-! ## The frame watchdog (R17) -/

/-- The watchdog expires while RUNNING: FRAMELESS, FRAMELOSS, and an OPEN frame is cut (R17). -/
def watchdogExpires (s : State) : Option State :=
  match s.al.part, s.ft.watchdog with
  | .running, some w =>
    if reached s.clk.tb w then
      let t := (s.withAl { s.al with part := .frameless }).raise .frameloss
      some (t.withFt { t.ft with watchdog := none }).cutFrame
    else none
  | _, _ => none

/-- FRAME_WATCHDOG_EXPIRY (R17). -/
def execFrameWatchdogExpiry (dt : Span) (s : State) : Host.Outcome State Fault Refusal :=
  runEvent dt watchdogExpires s

end Sys2Proof.Machine
end

