-- ==== Sys2Proof/Machine/LinkBreaks.lean ====
section
/-! DEFINITION. Breaks and the stuck wire (chapter 5). -/

namespace Sys2Proof.Machine

/-- A dominant level of another node can be recognised as a break: the link reads the wire, or waits for
it to stay recessive after a break (R114, R115; DEDUCED, log 17). -/
def Link.sensesBreaks (lc : Link) : Bool :=
  match lc.st with
  | .idle | .sending | .awaitReply | .receiving => true
  | .breakRx | .breakTx => lc.breakOver
  | .off | .stuck => false

/-- The present dominant level has been at a bound position (R113). -/
def State.levelBound (s : State) : Bool := s.lc.dominant.any (·.bound) || s.atBound

/-- The dominant level now on the wire is a break: it has been measured for 16 bit times and has been at a
bound position (R113). -/
def State.breakPresent (s : State) : Bool :=
  s.lc.sensesBreaks && s.wire.level == .low && decide (16 * s.rate.tau ≤ s.held) && s.levelBound

/-- A break is recognised (R114); the operand is its measure (DESIGN CHOICE, log 42). -/
def State.breakSensed (s : State) (held : Time) : Option State :=
  if s.breakPresent ∧ held.toNat = s.held then some s.senseBreak else none

/-- BREAK_RECOGNISED (R114). -/
def execBreakRecognised (dt : Span) (held : Time) (s : State) : Host.Outcome State Fault Refusal :=
  runEvent dt (·.breakSensed held) s

/-- The part releases its break after 40 bit times. On a recessive wire the break ends; on a dominant one
it is one break with the other node's, measured from the release (R116). The operand is the level of the
wire then (DESIGN CHOICE, log 42). -/
def State.breakReleased (s : State) (wire : Level) : Option State :=
  match s.lc.st, s.lc.breakEnd with
  | .breakTx, some e =>
    if reached s.clk.tb e ∧ wire = s.wire.level then
      match wire with
      | .high => some (s.withLc { s.lc with breakEnd := none, breakOver := true }).axesBreakEnd
      | .low => some (s.withLc { s.lc with
          st := .breakRx, breakEnd := none, breakOver := false,
          dominant := some { length := s.held, bound := true } })
    else none
  | _, _ => none

/-- SENT_BREAK_RELEASE (R116). -/
def execSentBreakRelease (dt : Span) (wire : Level) (s : State) : Host.Outcome State Fault Refusal :=
  runEvent dt (·.breakReleased wire) s

/-- The measure of a sensed break that has not ended. -/
def Link.sensedLevel (lc : Link) : Option DominantMeasure :=
  match lc.st, lc.breakOver with
  | .breakRx, false => lc.dominant
  | _, _ => none

/-- The level has lasted 2,048 bit times (R118). -/
def State.stuckAt (s : State) (d : DominantMeasure) : Bool := decide (2048 * s.rate.tau ≤ d.length)

/-- The wire has returned recessive before the level became stuck: the break ends (R115). -/
def sensedBreakEnds (s : State) : Option State :=
  match s.lc.sensedLevel with
  | some d =>
    if s.stuckAt d || s.wire.level == .low then none
    else some (s.withLc { s.lc with breakOver := true, dominant := none }).axesBreakEnd
  | none => none

/-- SENSED_BREAK_END (R115). -/
def execSensedBreakEnd (dt : Span) (s : State) : Host.Outcome State Fault Refusal :=
  runEvent dt sensedBreakEnds s

/-- A break has ended and the link waits for six recessive bit times (R115, R116). -/
def Link.waitsAfterBreak (lc : Link) : Bool :=
  match lc.st with
  | .breakTx | .breakRx => lc.breakOver
  | .off | .idle | .sending | .awaitReply | .receiving | .stuck => false

/-- Six recessive bit times after a break, counted afresh after every dominant level: IDLE, or the owed
break (R109, R115, R116, R117). -/
def breakWaited (s : State) : Option State :=
  if s.lc.waitsAfterBreak && s.linkQuiet then some s.linkAfterBreak else none

/-- LINK_FREE_AFTER_BREAK (R115). -/
def execLinkFreeAfterBreak (dt : Span) (s : State) : Host.Outcome State Fault Refusal :=
  runEvent dt breakWaited s

/-- The dominant level reaches 2,048 bit times: STUCK (R32, R118). -/
def becomesStuck (s : State) : Option State :=
  match s.lc.sensedLevel with
  | some d =>
    if s.stuckAt d then some ((s.withLc { s.lc with st := .stuck }).raise .stuck).axesStuck else none
  | none => none

/-- STUCK (R118). -/
def execStuck (dt : Span) (s : State) : Host.Outcome State Fault Refusal :=
  runEvent dt becomesStuck s

/-- The wire has been recessive for six bit times, counted afresh after every dominant level: the stuck
period ends (R33, R119). -/
def stuckEnds (s : State) : Option State :=
  if s.lc.st = .stuck ∧ s.linkQuiet = true then some s.axesStuckEnd.linkAfterBreak else none

/-- STUCK_END (R119). -/
def execStuckEnd (dt : Span) (s : State) : Host.Outcome State Fault Refusal :=
  runEvent dt stuckEnds s

end Sys2Proof.Machine
end

