-- ==== Sys2Proof/Machine/LinkFrames.lean ====
section
/-! DEFINITION. MARKs, replies, NOTEs and other nodes' frames on the axis link (chapter 5), and the expiry
of an axis's blanking (R31). -/

namespace Sys2Proof.Machine

/-! ## Blanking (R31) -/

/-- A set expiry is reached: the axis is NOT_BLANKING (R31). -/
def State.blankingEnds (s : State) (x : Axis) : Option State :=
  match (s.axes.get x).blanking with
  | .until e =>
    if reached s.clk.tb e then
      some (s.withAxes (s.axes.set x { s.axes.get x with blanking := .notBlanking }))
    else none
  | .notBlanking | .pending _ => none

/-- BLANKING_EXPIRY (R31). -/
def execBlankingExpiry (dt : Span) (axis : Axis) (s : State) : Host.Outcome State Fault Refusal :=
  runEvent dt (·.blankingEnds axis) s

/-! ## The MARK transaction (R101 to R106, R110) -/

/-- A waiting MARK is dropped as SKIPPED (R110). -/
def State.dropWaiting (s : State) : State :=
  match s.lc.waiting with
  | some (x, unit) => (s.withLc { s.lc with waiting := none }).deliver x unit .skipped none
  | none => s

/-- The axis the schedule slot at the pointer names, if its mode in force is TRACK (R110). -/
def State.scheduledAxis (s : State) : Option Axis :=
  match s.sr.inForce with
  | some a => ((a.settings.schedule.getD s.lc.pointer none)).filter s.tracks
  | none => none

/-- A tick: a waiting MARK is dropped, the slot is read, the pointer advances, the next tick is set, and
the MARK of a TRACK axis becomes due (R109, R110, R111). -/
def markTicked (s : State) : Option State :=
  match s.lc.tick with
  | some t =>
    if reached s.clk.tb t then
      let u := s.dropWaiting
      let v := u.withLc { u.lc with pointer := (u.lc.pointer + 1) % 8, tick := u.nextTick }
      match u.scheduledAxis with
      | some x => some (v.markDue x (v.unit x))
      | none => some v
    else none
  | none => none

/-- MARK_TICK (R110). -/
def execMarkTick (dt : Span) (s : State) : Host.Outcome State Fault Refusal :=
  runEvent dt markTicked s

/-- The transaction in flight with its link state. -/
def State.inTransaction (s : State) (st : LinkState) : Option Transaction :=
  if s.lc.st = st then s.lc.trans else none

/-- The dominant level now on AXL began before bit time `e` of the frame being read. -/
def State.levelBegan (s : State) (r : Reading) (e : Nat) : Bool :=
  decide (s.into r < s.wire.age + e * s.rate.tau)

/-- END-OF-DATA ends, 30 bit times after the LEAD's falling edge, every bit read back as sent: the sample
time is taken less LINK_LATENCY (R97, R103). On a wire that is dominant by then the window opens with its
edge past, and that edge is the REPLY-LEAD (DESIGN CHOICE, log 19); a level that began in END-OF-DATA is bound
from its start (R113). -/
def dataEnded (s : State) : Option State :=
  match s.inTransaction .sending, s.lc.reading with
  | some t, some r =>
    if r.bits.take 30 = t.sent ∧ 30 * s.rate.tau ≤ s.into r then
      let u := s.withLc { s.lc with
        st := .awaitReply, reading := none,
        trans := some
          { t with sampleTime := some (s.clk.tb - micros s.latency), windowAt := some s.clk.tb } }
      match s.wire.level with
      | .high => some u
      | .low => some (u.withLc { u.lc with
          st := .receiving, reading := some s.readingSinceFall,
          dominant := some { length := s.held, bound := s.levelBegan r 30 } })
    else none
  | _, _ => none

/-- END_OF_DATA (R103). -/
def execEndOfData (dt : Span) (s : State) : Host.Outcome State Fault Refusal :=
  runEvent dt dataEnded s

/-- The reply window closes, 4 bit times after END-OF-DATA, with no REPLY-LEAD: its edge would have taken
the link out of AWAIT_REPLY (R104). -/
def windowCloses (s : State) : Option State :=
  match s.inTransaction .awaitReply with
  | some t => match t.windowAt with
    | some w =>
      if reached s.clk.tb (w + s.bits 4) then some (s.endTransaction (t.fault .noReply)) else none
    | none => none
  | none => none

/-- REPLY_WINDOW_CLOSE (R104). -/
def execReplyWindowClose (dt : Span) (s : State) : Host.Outcome State Fault Refusal :=
  runEvent dt windowCloses s

/-- The reply CHECK of a MARK: over its sequence and the four reply bytes (R99). -/
def replyCheck (seq p2 p1 p0 status : Byte) : Byte := crc8 [seq, p2, p1, p0, status]

/-- A reply read whole: its position and status, and CHECK_FAULT when the CHECK read differs (R105). -/
def Transaction.replied (t : Transaction) (p2 p1 p0 status check : Byte) : Transaction :=
  let t := { t with reply := some (positionOf p2 p1 p0, status) }
  if check = replyCheck t.seq p2 p1 p0 status then t else t.fault .checkFault

/-- The transaction whose reply has been read whole, with its 41 bits: the REPLY-LEAD, four bytes and the
reply CHECK (R105). -/
def State.replyBits (s : State) : Option (Transaction × List Bool) :=
  match s.inTransaction .receiving, s.lc.reading with
  | some t, some r =>
    if t.interpreted ∧ t.reply = none ∧ 41 ≤ r.bits.length then some (t, r.bits) else none
  | _, _ => none

/-- The reply has been read: the operands are its five bytes (R105; DESIGN CHOICE, log 42). -/
def State.replyRead (s : State) (p2 p1 p0 status check : Byte) : Option State :=
  match s.replyBits with
  | some (t, bits) =>
    if [p2, p1, p0, status, check] = (List.range 5).map (fun k => byteAt bits (1 + 8 * k)) then
      some (s.withLc { s.lc with trans := some (t.replied p2 p1 p0 status check) })
    else none
  | none => none

/-- REPLY_RECEIVED (R105). -/
def execReplyReceived (dt : Span) (p2 p1 p0 status check : Byte) (s : State) :
    Host.Outcome State Fault Refusal :=
  runEvent dt (·.replyRead p2 p1 p0 status check) s

/-- The link is free after a transaction: after END-OF-FRAME of a reply read, or after the six recessive
bit times that follow a broken frame (R106). -/
def transactionEnds (s : State) : Option State :=
  match s.inTransaction .receiving with
  | some t =>
    if (t.interpreted && t.reply.isSome && s.frameEnded 41) || (!t.interpreted && s.linkQuiet) then
      some (s.endTransaction t)
    else none
  | none => none

/-- TRANSACTION_END (R106). -/
def execTransactionEnd (dt : Span) (s : State) : Host.Outcome State Fault Refusal :=
  runEvent dt transactionEnds s

/-- The first bit of the MARK being sent that has been read back different. -/
def State.misread (s : State) : Option (Transaction × Nat) :=
  match s.inTransaction .sending, s.lc.reading with
  | some t, some r => (differsAt t.sent r.bits).map (t, ·)
  | _, _ => none

/-- A recessive header bit reads dominant: LOST_ARB is delivered at once, and the winning frame is read
on, with the bits already read (R101). -/
def arbitrationLost (s : State) : Option State :=
  match s.misread with
  | some (t, i) =>
    if 4 ≤ i ∧ i < 12 then
      let u := s.withLc { s.lc with
        st := .receiving, trans := none,
        rx := some { joinable := false, interpreted := true, framing := false, replied := false } }
      some (u.deliver t.axis t.unit .lostArb none)
    else none
  | none => none

/-- LOST_ARBITRATION (R101). -/
def execLostArbitration (dt : Span) (s : State) : Host.Outcome State Fault Refusal :=
  runEvent dt arbitrationLost s

/-- A level read back differs outside the header: the recessive bit of the LEAD, the data byte, the CHECK
or END-OF-DATA. The pending code becomes BIT_FAULT, the frame is no longer interpreted, and the level that
did it is bound (R102). -/
def bitFaulted (s : State) : Option State :=
  match s.misread with
  | some (t, i) =>
    if i < 4 ∨ 12 ≤ i then
      some (s.withLc { s.lc with
        st := .receiving, reading := none, trans := some { t.fault .bitFault with interpreted := false },
        dominant := some { length := s.held, bound := true } })
    else none
  | none => none

/-- BIT_FAULT (R102). -/
def execBitFault (dt : Span) (s : State) : Host.Outcome State Fault Refusal :=
  runEvent dt bitFaulted s

/-! ## Frames of other nodes (R98, R107, R108) -/

/-- Another node has driven an IDLE wire dominant: a frame has begun at that edge (R98). -/
def frameSeen (s : State) : Option State :=
  match s.lc.st, s.wire.level with
  | .idle, .low =>
    some (s.withLc { s.lc with
      st := .receiving, reading := some s.readingSinceFall,
      rx := some { joinable := true, interpreted := true, framing := false, replied := false } })
  | _, _ => none

/-- RECEIVED_FRAME_BEGIN (R98). -/
def execReceivedFrameBegin (dt : Span) (s : State) : Host.Outcome State Fault Refusal :=
  runEvent dt frameSeen s

/-- The frame of another node being read, with its bits. -/
def State.frameRead (s : State) : Option (RxFrame × Reading) :=
  match s.lc.st, s.lc.trans, s.lc.rx, s.lc.reading with
  | .receiving, none, some f, some r => some (f, r)
  | _, _, _, _ => none

/-- Where a frame being read must be recessive from: the end of its CHECK, or of the reply CHECK of a MARK
whose REPLY-LEAD has been seen (R97, R98). -/
def RxFrame.bitsEnd (f : RxFrame) (r : Reading) : Option Nat :=
  if f.replied then some 41 else r.header.map frameEnd

/-- Why a frame still interpreted is to be judged FRAMING (R98): an invalid LEAD, a dominant level where
the frame calls for recessive, an unused kind. The LEAD is judged by its bit middles alone: a dominant level
in its fourth bit time that the middle does not meet is no cause (DESIGN CHOICE, log 47). -/
def State.framingCause (s : State) (f : RxFrame) (r : Reading) : Option FramingCause :=
  if !f.interpreted then none
  else if !r.leadOk && !f.replied then some .invalidLead
  else if (f.bitsEnd r).any s.frameBroken then some .boundDominant
  else match r.header with
    | some h =>
      if !f.framing && !f.replied && decide (2 ≤ headerKind h) then some (.unusedKind h) else none
    | none => none

/-- A received frame with its judgement FRAMING (R98): an unused kind is still passed over by its length,
an invalid LEAD or a dominant level at a bound position ends the interpretation. -/
def RxFrame.framed (f : RxFrame) : FramingCause → RxFrame
  | .unusedKind _ => { f with framing := true, joinable := false }
  | .invalidLead | .boundDominant =>
    { f with interpreted := false, framing := true, joinable := false }

/-- FRAMING found in a frame being read (R98), or in the END-OF-FRAME of a reply (R105); the operand is its
cause (DESIGN CHOICE, log 42). -/
def State.framingFound (s : State) (c : FramingCause) : Option State :=
  match s.inTransaction .receiving, s.frameRead with
  | some t, _ =>
    if c = .boundDominant ∧ t.interpreted ∧ t.reply.isSome ∧ s.frameBroken 41 then
      some (s.withLc { s.lc with
        reading := none, trans := some { t.fault .framing with interpreted := false } })
    else none
  | none, some (f, r) =>
    if s.framingCause f r = some c then some (s.withLc { s.lc with rx := some (f.framed c) }) else none
  | none, none => none

/-- RECEIVED_FRAME_FRAMING (R98). -/
def execReceivedFrameFraming (dt : Span) (cause : FramingCause) (s : State) :
    Host.Outcome State Fault Refusal :=
  runEvent dt (·.framingFound cause) s

/-- The judgement of a NOTE by its length, its CHECK and its code: what is delivered, if it passes
(R107). -/
def judgeNote (header : Byte) (data : List Byte) (check : Byte) : Option (NoteCode × Option Counts) :=
  if crc8 (header :: data) = check then
    match data with
    | [code] => (noteOf code).map (·, none)
    | [code, p2, p1, p0] => (noteOf code).map (·, some (positionOf p2 p1 p0))
    | _ => none
  else none

/-- The header of a frame that has had its END-OF-FRAME, still interpreted and without a reply (R97). -/
def State.headerEnded (s : State) : Option (RxFrame × Byte × List Bool) :=
  match s.frameRead with
  | some (f, r) => match r.header with
    | some h =>
      if f.interpreted && !f.replied && s.frameEnded (frameEnd h) then some (f, h, r.bits) else none
    | none => none
  | none => none

/-- The data bytes of a frame and its CHECK, by the length its header gives (R98). -/
def dataBytes (h : Byte) (bits : List Bool) : List Byte :=
  (List.range (headerLength h)).map (fun k => byteAt bits (12 + 8 * k))
def checkByte (h : Byte) (bits : List Bool) : Byte := byteAt bits (12 + 8 * headerLength h)

/-- The NOTE that has reached the end of its END-OF-FRAME: header, data bytes and CHECK (R107). -/
def State.noteEnded (s : State) : Option (Byte × List Byte × Byte) :=
  match s.headerEnded with
  | some (f, h, bits) =>
    if !f.framing && headerKind h == 0 then some (h, dataBytes h bits, checkByte h bits) else none
  | none => none

/-- A NOTE read whole, of the bytes that the operands are, is delivered if it passes, and the link is free
(R107, R108; DESIGN CHOICE, log 20, 42). -/
def State.noteRead (s : State) (header : Byte) (data : List Byte) (check : Byte) : Option State :=
  if s.noteEnded = some (header, data, check) then
    match judgeNote header data check with
    | some (code, pos) => some (s.deliverNote (headerAddress header) code pos).linkFree
    | none => some s.linkFree
  else none

/-- NOTE_RECEIVED (R107). -/
def execNoteReceived (dt : Span) (header : Byte) (data : List Byte) (check : Byte) (s : State) :
    Host.Outcome State Fault Refusal :=
  runEvent dt (·.noteRead header data check) s

/-- A NOTE that passes its judgement, to be delivered (R107). -/
def State.noteToDeliver (s : State) : Bool :=
  match s.noteEnded with
  | some (h, data, check) => (judgeNote h data check).isSome
  | none => false

/-- A frame that is not delivered has come to a free link (R98, R108): it has had its END-OF-FRAME, or six
recessive bit times after it was no longer interpreted. A NOTE to be delivered is NOTE_RECEIVED. -/
def State.undeliveredEnds (s : State) (f : RxFrame) : Bool :=
  if !f.interpreted then s.linkQuiet
  else if f.replied then s.frameEnded 41
  else s.headerEnded.isSome && !s.noteToDeliver

/-- The link is free after a frame that is not delivered (R108). -/
def frameOver (s : State) : Option State :=
  match s.frameRead with
  | some (f, _) => if s.undeliveredEnds f then some s.linkFree else none
  | none => none

/-- RECEIVED_FRAME_END (R108). -/
def execReceivedFrameEnd (dt : Span) (s : State) : Host.Outcome State Fault Refusal :=
  runEvent dt frameOver s

end Sys2Proof.Machine
end

