-- ==== Sys2Proof/Machine/RecordOps.lean ====
section
/-! DEFINITION. The Record Writer's operations (chapter 7): the words of an open, a record and a close,
the overwrite judgement, the WARN stretch. -/

namespace Sys2Proof.Machine

/-! ## Opening a slot (R145 to R147) -/

/-- NO_PROFILE and NO_LENS as the profile state and the mount state stand (R153). -/
def State.noProfile (s : State) : Bool := s.pl.st != .ready
def State.noLens (s : State) : Bool := s.ms.mount == .absent

/-- The low word of the loaded SERIAL, 0 when no loaded pair is present (R86, R147). -/
def ProfileLoader.headerSerial (pl : ProfileLoader) : Word :=
  match pl.loaded with
  | some l => loWord l.serial
  | none => 0

/-- The 16 header words of an open, in the order they are written: STATE OPEN first (R147). -/
def State.headerWords (s : State) (n : BeginNotice) (overwrote : Bool) : List Word :=
  [1, hiWord n.number, loWord n.number, hiWord n.t0, loWord n.t0,
   headerFlags false false false overwrote s.noProfile s.noLens,
   natWord n.bands, 0, n.seq, s.pl.headerSerial,
   axisWord s.axes.focus, axisWord s.axes.iris, axisWord s.axes.zoom, 0, 0, 0]

/-- Words to be written one after another from an address on. -/
def wordsFrom (base : Nat) (ws : List Word) : List WordWrite := ws.mapIdx (fun i w => (base + i, w))

/-- The address of the record of band b in a slot (R145). -/
def recordAt (base b : Nat) : Nat := base + 16 + 16 * b

/-- The empty tags of the B band records of a slot (R147). -/
def emptyTags (base bands : Nat) : List WordWrite :=
  (List.range bands).map (fun b => (recordAt base b, emptyTag))

/-- The judgement of a slot's STATE word: anything but FREE with good parity is an overwrite (R146). The
header is written later, so a FREE of the consumer may be granted first (R155): a request of another requestor
that is pending here is granted before STATE OPEN (DESIGN CHOICE, log 12). -/
def State.slotJudged (s : State) (n : BeginNotice) (index base : Nat) (found : Stored) : State :=
  let overwrote := !found.good || found.data != 0
  let t := (s.raiseIf overwrote .overrun).raiseIf (!found.good) .parity
  t.withRw { t.rw with work := .judged n index base overwrote }

/-- A judged slot is opened: it becomes the open slot, and the header, its states as they stand now, and the
empty tags are to be written (R147; DESIGN CHOICE, log 12). -/
def State.openJudged (s : State) (n : BeginNotice) (index base : Nat) (overwrote : Bool) : State :=
  s.withRw { s.rw with
    work := .opening (wordsFrom base (s.headerWords n overwrote) ++ emptyTags base n.bands),
    openSlot := some
      { index := index, base := base, ringBase := n.ringBase, ringSlots := n.ringSlots,
        frameNo := n.number, t0 := n.t0, planned := n.bands, written := 0, overwrote := overwrote,
        noProfile := s.noProfile, noLens := s.noLens, degraded := false } }

/-- The slot index a begin notice opens at: 0 when it carries the ring-reset mark (R145). -/
def RecordWriter.openIndex (rw : RecordWriter) (n : BeginNotice) : Nat :=
  if n.ringReset then 0 else rw.nextSlot

/-! ## Writing a record (R148, R149) -/

/-- The record with LATE judged by the time it is taken up (R11, R148). -/
def RecordItem.takenUp (r : RecordItem) (now : Time) : RecordItem :=
  { r with result := { r.result with
      flags := { r.result.flags with late := later now r.deadline } } }

/-- The words of a record in the order they are written: FLAGS, the values in the order of the layout,
TAG last (R149). -/
def recordWrites (o : OpenSlot) (r : RecordItem) : List WordWrite :=
  let ws := wordsFrom (recordAt o.base r.band) (recordLayout r.frameNo r.band r.result)
  ws.drop 1 ++ ws.take 1

/-- A record counted in the open slot, with the flags it gathers (R149, R153). -/
def OpenSlot.count (o : OpenSlot) (f : BandFlags) : OpenSlot :=
  { o with
    written := o.written + 1, degraded := o.degraded || f.degraded,
    noProfile := o.noProfile || f.identity }

/-! ## Closing a slot (R151, R152, R156) -/

/-- The WARN stretch count after a close, from the WARN_STRETCH in force (R156). -/
def warnAfter (count stretch : Nat) (degraded : Bool) : Nat :=
  if degraded then stretch + 1 else count - 1

/-- WARN follows the stretch count and the part state (R156). -/
def warnLevel (count : Nat) (part : PartState) : Bool := decide (0 < count) && part.live

/-- The WARN_STRETCH in force (R156). -/
def State.warnStretch (s : State) : Nat :=
  match s.sr.inForce with
  | some a => a.settings.warnStretch
  | none => 0

/-- Handling an end notice: the final flags are settled, WARN is updated, and FLAGS, BANDS_DONE and STATE
CLOSED are to be written (R151, R152). -/
def State.closeSlot (s : State) (o : OpenSlot) (cut : Bool) : State :=
  let degraded := o.degraded || cut
  let count := warnAfter s.rw.warnCount s.warnStretch degraded
  let warn := warnLevel count s.al.part
  let flags := headerFlags degraded warn cut o.overwrote (o.noProfile || s.noProfile)
    (o.noLens || s.noLens)
  s.withRw { s.rw with
    warnCount := count, warnOut := warn,
    work := .closing [(o.base + 5, flags), (o.base + 7, natWord o.written), (o.base, 2)] }

/-! ## Resets -/

/-- A reset of the Record Writer (R158, R159). -/
def RecordWriter.cleared : RecordWriter := RecordWriter.reset

end Sys2Proof.Machine
end

