-- ==== Sys2Proof/Machine/PartControl.lean ====
section
/-! DEFINITION. Part control (chapters 8 and 9): RESETn, the end of CLEARING, CONTROL and the other
register writes, the read of TB_LO. -/

namespace Sys2Proof.Machine

/-! ## Hard reset (R171, R172, R181) -/

/-- While RESETn is low: the timebase at 0, every block at its hard-reset values, nothing driven. The
words of memory stand until the clear that follows, and so do a strobe held on the port's inputs and the
level other nodes give AXL (DEDUCED, log 37; DESIGN CHOICE, log 41). -/
def State.hardReset (s : State) : State :=
  { State.reset with
    pending := s.pending, clk := { tb := 0, resetn := false }, mem := s.mem,
    sp := { SystemPort.reset with strobe := s.sp.strobe },
    wire := { Wire.reset with level := s.wire.level } }

/-- RESETN_ASSERT (R181): the falling edge cuts off every operation in flight. RESETn already low has no
edge. -/
def execResetnAssert (dt : Span) (s : State) : Host.Outcome State Fault Refusal :=
  if s.clk.resetn then .next (s.elapse dt).hardReset else .next (s.elapse dt)

/-- RESETn returns high: the timebase counts from 0, the memory clear begins, and a strobe still held is
a new access (R171, R172, R181; DESIGN CHOICE, log 7). -/
def resetnReleased (s : State) : Option State :=
  if s.clk.resetn then none
  else
    some (((s.withClk { tb := 0, resetn := true }).withMem []).withSp
      { s.sp with phase := if s.sp.strobe.isSome then .waiting false else .idle })

/-- RESETN_RELEASE (R181). -/
def execResetnRelease (dt : Span) (s : State) : Host.Outcome State Fault Refusal :=
  runEvent dt resetnReleased s

/-- Word 0x7FFF has been cleared: the clear hold drops and the whole mirror is to be written (R172). -/
def memoryCleared (s : State) : Option State :=
  if s.clk.resetn && s.ma.clearHold then
    some (s.withMa { s.ma with clearHold := false }).markAll
  else none

/-- MEMORY_CLEAR_DONE (R172). -/
def execMemoryClearDone (dt : Span) (s : State) : Host.Outcome State Fault Refusal :=
  runEvent dt memoryCleared s

/-- The three things CLEARING waits for are done: the clear, the mirror writes, the first mount sample
with its write of MOUNT (R182; DEDUCED, log 34). -/
def State.clearingDone (s : State) : Bool :=
  s.clk.resetn && s.al.part == .clearing && !s.ma.clearHold && s.ms.lastRaw.isSome &&
  s.sr.marks.isEmpty && s.sr.mirrorRest.isNone && s.sr.report.isEmpty && s.ma.reqSr.isNone

/-- CLEARING ends: HALTED, and the port hold is cleared (R172, R182). -/
def clearingEnded (s : State) : Option State :=
  if s.clearingDone then
    some ((s.withAl { s.al with part := .halted }).withMa { s.ma with portHold := false })
  else none

/-- CLEARING_END (R182). -/
def execClearingEnd (dt : Span) (s : State) : Host.Outcome State Fault Refusal :=
  runEvent dt clearingEnded s

/-! ## CONTROL (R183 to R186) -/

/-- RUN in HALTED (R184): ARMED, the run-start break, WARN by the stretch count. -/
def State.runCommand (s : State) : Option State :=
  if s.al.part = .halted then
    let t := (s.withAl { s.al with part := .armed }).sendBreak
    some (t.withRw { t.rw with warnOut := warnLevel t.rw.warnCount .armed })
  else none

/-- HALT in ARMED, RUNNING or FRAMELESS (R185): an OPEN frame is cut, the watchdog stops, the link goes
OFF and WARN goes LOW. -/
def State.haltCommand (s : State) : Option State :=
  if s.al.part.live then
    let t := s.cutFrame
    some ((((t.withFt { t.ft with watchdog := none }).withLc t.lc.goOff).withAl
      { t.al with part := .halted }).withRw { t.rw with warnOut := false })
  else none

/-- The Attention Logic's soft-reset values (R186): the timebase latch keeps its value. -/
def Attention.softReset (al : Attention) : Attention :=
  { al with part := .halted, causes := 0, enables := 0, faultAddr := 0, attnLow := false }

/-- Three requestors withdraw their requests at a soft reset; the port's stands (R173). -/
def Arbiter.softReset (ma : Arbiter) : Arbiter :=
  { ma with reqRw := none, reqSr := none, reqPl := none }

/-- SRESET in HALTED, ARMED, RUNNING or FRAMELESS (R186): every block takes its soft-reset values. The
timebase, the mount sensor, the memory and the port keep theirs. -/
def State.sresetCommand (s : State) : Option State :=
  if s.al.part = .clearing then none
  else some
    { s with
      ft := s.ft.softReset, be := BandEngine.reset, axes := Axes.reset, lc := s.lc.softReset,
      pl := s.pl.cleared, sr := SettingsReader.softReset, rw := RecordWriter.cleared,
      ma := s.ma.softReset, al := s.al.softReset }

/-- The port can take a register write: no memory strobe is held on its inputs, since one access runs at a
time (R167), and the part takes register writes (R170, R171). -/
def State.takesRegisterWrite (s : State) : Bool := s.sp.strobe.isNone && s.takesWrites

/-- A write to CONTROL (R183). During CLEARING, and while RESETn is low, it is ignored (R170, R171). -/
def State.controlWrite (s : State) (v : Word) : Option State :=
  if s.takesRegisterWrite then
    match controlCommand v with
    | .run => s.runCommand
    | .halt => s.haltCommand
    | .sreset => s.sresetCommand
    | .nothing => none
  else none

/-- RUN (R184): the word written to CONTROL, acted on by R183. -/
def execRun (dt : Span) (v : Word) (s : State) : Host.Outcome State Fault Refusal :=
  runEvent dt (·.controlWrite v) s

/-- HALT (R185): the word written to CONTROL, acted on by R183. -/
def execHalt (dt : Span) (v : Word) (s : State) : Host.Outcome State Fault Refusal :=
  runEvent dt (·.controlWrite v) s

/-- SRESET (R186): the word written to CONTROL, acted on by R183. -/
def execSreset (dt : Span) (v : Word) (s : State) : Host.Outcome State Fault Refusal :=
  runEvent dt (·.controlWrite v) s

/-! ## CAUSES, ENABLES, TB_LO and ignored writes (R170, R188, R189, R191) -/

/-- A write to CAUSES clears the causes whose bits are 1 and re-judges ATTN (R188). -/
def Attention.clearCauses (al : Attention) (v : Word) : Attention :=
  { al with causes := al.causes &&& ~~~(v.setWidth 11) }.judge

/-- A write to ENABLES sets the eleven enables and re-judges ATTN (R189). -/
def Attention.setEnables (al : Attention) (v : Word) : Attention :=
  { al with enables := v.setWidth 11 }.judge

def State.causesWritten (s : State) (v : Word) : Option State :=
  if s.takesRegisterWrite then some (s.withAl (s.al.clearCauses v)) else none

def State.enablesWritten (s : State) (v : Word) : Option State :=
  if s.takesRegisterWrite then some (s.withAl (s.al.setEnables v)) else none

/-- CAUSES_WRITE (R188). -/
def execCausesWrite (dt : Span) (v : Word) (s : State) : Host.Outcome State Fault Refusal :=
  runEvent dt (·.causesWritten v) s

/-- ENABLES_WRITE (R189). -/
def execEnablesWrite (dt : Span) (v : Word) (s : State) : Host.Outcome State Fault Refusal :=
  runEvent dt (·.enablesWritten v) s

/-- A read of TB_LO drives the low half of the timebase and latches the high half (R191). No memory strobe
is held meanwhile (R167). -/
def tbLoReadDone (s : State) : Option State :=
  if s.sp.strobe.isNone && s.clk.resetn then
    some (s.withAl
      { s.al with tbLatch := hiWord s.clk.tb, tbLoRead := some (s.registerRead 6) })
  else none

/-- TB_LO_READ (R191). -/
def execTbLoRead (dt : Span) (s : State) : Host.Outcome State Fault Refusal :=
  runEvent dt tbLoReadDone s

/-- A register write at an address (R170, R179): only CONTROL, CAUSES and ENABLES take one. -/
def State.registerWrite (s : State) (addr : BitVec 15) (v : Word) : Option State :=
  if addr = 1 then s.controlWrite v
  else if addr = 3 then s.causesWritten v
  else if addr = 4 then s.enablesWritten v
  else none

/-- REGISTER_WRITE_IGNORED (R170): a register write that the part does not take changes nothing. At an
address that takes writes, out of CLEARING, it is the write it is (DESIGN CHOICE, log 22). -/
def execRegisterWriteIgnored (dt : Span) (addr : BitVec 15) (v : Word) (s : State) :
    Host.Outcome State Fault Refusal :=
  runEvent dt (·.registerWrite addr v) s

end Sys2Proof.Machine
end

