-- ==== Sys2Proof/Machine/PortAccess.lean ====
section
/-! DEFINITION. The system port's memory accesses and the completion of accesses (chapter 8). -/

namespace Sys2Proof.Machine

/-! ## The port (R167 to R169, R171) -/

/-- A memory strobe begins: WAITn falls and the access's request is presented at the end of the step.
While RESETn is low the port takes no access, and the strobe waits on its inputs (R171). -/
def State.strobeBegins (s : State) (k : Strobe) : Option State :=
  if s.sp.strobe.isNone && s.sp.phase == .idle then
    some (s.withSp
      { s.sp with strobe := some k, phase := if s.clk.resetn then .waiting false else .idle })
  else none

/-- PORT_MEMORY_READ (R168). -/
def execPortMemoryRead (dt : Span) (addr : BitVec 15) (s : State) :
    Host.Outcome State Fault Refusal :=
  runEvent dt (·.strobeBegins { addr := addr.toNat, write := none }) s

/-- PORT_MEMORY_WRITE (R169): D is held stable, so the word at the grant is the word at the start. -/
def execPortMemoryWrite (dt : Span) (addr : BitVec 15) (data : Word) (s : State) :
    Host.Outcome State Fault Refusal :=
  runEvent dt (·.strobeBegins { addr := addr.toNat, write := some data }) s

/-- A strobe ends: the port returns to IDLE, releasing D and WAITn. A request not yet granted is
withdrawn; a granted access completes inside the part (R168, R169). -/
def strobeEnds (s : State) : Option State :=
  if s.sp.strobe.isSome then
    some ((s.withdraw .systemPort).withSp { strobe := none, phase := .idle, dataOut := none })
  else none

/-- PORT_STROBE_END (R168, R169). -/
def execPortStrobeEnd (dt : Span) (s : State) : Host.Outcome State Fault Refusal :=
  runEvent dt strobeEnds s

/-! ## Completions (R161 to R163) -/

/-- What a read found failed its parity check. -/
def Access.failed (a : Access) : Bool :=
  match a.read with
  | some v => !v.good
  | none => false

/-- The Record Writer hears a completion: the STATE word it reads at an open is judged (R146). -/
def State.recordWriterHears (s : State) (a : Access) : State :=
  match s.rw.work, a.read with
  | .judging n index base true, some v => s.slotJudged n index base v
  | _, _ => s

/-- The System Port hears a completion: it enters DONE and drives the word of a read. An abandoned access
only reports its parity failure (R162, R168, R169). -/
def State.portHears (s : State) (a : Access) : State :=
  let t := s.raiseIf a.failed .parity
  match t.sp.phase with
  | .waiting true => t.withSp { t.sp with phase := .done, dataOut := a.read.map Stored.data }
  | .idle | .waiting false | .done => t

/-- The Settings Reader hears a completion: a word of the look or of the copy (R125, R127). The result of
an abandoned request is discarded (R164). -/
def State.readerHears (s : State) (a : Access) : State :=
  let t := s.withSr { s.sr with awaiting := .nothing }
  match s.sr.awaiting, a.read, s.sr.exam with
  | .selector, some v, .readSelector frameNo => t.selectorRead v frameNo
  | .pageSeq, some v, .readSeq sel frameNo => t.judgePair sel v.data (!v.good) frameNo
  | .pageWord, some v, _ => t.pageWordRead v
  | _, _, _ => t

/-- A load with one more word read, or stopped at a word that failed parity (R79, R80). -/
def Load.fetched (l : Load) (v : Stored) : Load :=
  if v.good then { l with words := l.words ++ [v.data] } else { l with parityFailed := true }

/-- The Profile Loader hears a completion. A word fetched for an abandoned load is discarded (R164). -/
def State.loaderHears (s : State) (a : Access) : State :=
  match s.pl.awaiting, a.read, s.pl.load with
  | true, some v, some l =>
    s.withPl { s.pl with awaiting := false, load := some (l.fetched v) }
  | _, _, _ => s

/-- The completion handed to its requestor (R163). -/
def State.accessHeard (s : State) (a : Access) : State :=
  match a.who with
  | .recordWriter => s.recordWriterHears a
  | .systemPort => s.portHears a
  | .settingsReader => s.readerHears a
  | .profileLoader => s.loaderHears a

/-- An access completes: a parity failure latches its address, the requestor hears the result (R161,
R162, R163; DEDUCED, log 26). The next grant ends the step. -/
def accessCompletes (s : State) : Option State :=
  match s.ma.inflight with
  | some a =>
    let t := s.withMa { s.ma with inflight := none }
    some ((if a.failed then t.latchFault a.addr else t).accessHeard a)
  | none => none

/-- MEMORY_ACCESS_COMPLETE (R163). -/
def execMemoryAccessComplete (dt : Span) (s : State) : Host.Outcome State Fault Refusal :=
  runEvent dt accessCompletes s

/-! ## Disturbances (R160) -/

/-- A stored word is disturbed. During the memory clear only a word already cleared keeps a disturbance:
one the clear has still to reach is written over (DESIGN CHOICE, log 7). -/
def State.disturbed (s : State) (addr : BitVec 15) (data : Word) : Option State :=
  if s.clk.resetn && s.ma.clearHold &&
      decide (Config.clearedPerMicrosecond * s.clk.tb.toNat ≤ addr.toNat) then none
  else some (s.withMem (memDisturb s.mem addr.toNat data))

/-- WORD_DISTURBED (R160). -/
def execWordDisturbed (dt : Span) (addr : BitVec 15) (data : Word) (s : State) :
    Host.Outcome State Fault Refusal :=
  runEvent dt (·.disturbed addr data) s

end Sys2Proof.Machine
end

