-- ==== Sys2Proof/Machine/Profiles.lean ====
section
/-! DEFINITION. The steps of a profile load and the samples of the Mount Sensor (chapter 4). -/

namespace Sys2Proof.Machine

/-! ## Loads (R79, R80) -/

/-- The header is fetched, or its fetch stopped at a parity failure: the load fails or enters BODY
(R79). -/
def headerFetched (s : State) : Option State :=
  match s.pl.load with
  | some l =>
    if l.phase = .header ∧ (l.parityFailed ∨ l.words.length = 7) then
      match headerFailure l s.ringAreas with
      | some why => some (s.loadFails l why)
      | none => some (s.withPl
          { s.pl with load := some { l with phase := .body, extent := some (profLength l.words) } })
    else none
  | none => none

/-- PROFILE_HEADER_FETCHED (R79). -/
def execProfileHeaderFetched (dt : Span) (s : State) : Host.Outcome State Fault Refusal :=
  runEvent dt headerFetched s

/-- The engine is COMPUTING a band. -/
def Engine.busy : Engine → Bool
  | .computing _ => true
  | .idle | .handingOver _ _ => false

/-- The body is fetched, or its fetch stopped at a parity failure: the load fails, finishes, or waits in
FINISHING for the end of a band computation (R80, R81, R82). -/
def bodyFetched (s : State) : Option State :=
  match s.pl.load with
  | some l =>
    if l.phase = .body ∧ (l.parityFailed ∨ some l.words.length = l.extent) then
      match bodyFailure l with
      | some why => some (s.loadFails l why)
      | none =>
        if s.be.engine.busy then
          some (s.withPl { s.pl with load := some { l with phase := .finishing } })
        else some (s.loadFinishes l)
    else none
  | none => none

/-- PROFILE_BODY_FETCHED (R80). -/
def execProfileBodyFetched (dt : Span) (s : State) : Host.Outcome State Fault Refusal :=
  runEvent dt bodyFetched s

/-! ## Mount samples (R90 to R94) -/

/-- The mount state a level stands for (R94). -/
def Level.mount : Level → Mount
  | .high => .present
  | .low => .absent

/-- The first sample after a hard reset sets the mount state directly and marks MOUNT (R94). -/
def State.firstSample (s : State) (lens : Level) : State :=
  (s.withMs { s.ms with mount := Level.mount lens, lastRaw := some lens }).markField .mount

/-- An attach (R92). -/
def State.attach (s : State) : State := (s.withMs { s.ms with mount := .present }).raise .lens

/-- A detach, reported to the Profile Loader, the Axis Tracker and the Link Controller (R93). -/
def State.detach (s : State) : State :=
  let t := (s.withMs { s.ms with mount := .absent }).raise .lens
  ((t.withPl t.pl.detach).axesDetach).breakForDetach

/-- A sample after the first, compared with the mount state and the last raw sample (R91). -/
def State.laterSample (s : State) (last lens : Level) : State :=
  let t := s.withMs { s.ms with lastRaw := some lens }
  match s.ms.mount, lens, last with
  | .absent, .high, .high => t.attach
  | .present, .low, .low => t.detach
  | _, _, _ => t

/-- The sample timer is reached: LENS is sampled and the next sample time set (R90; DESIGN CHOICE, log 25). -/
def State.lensSampled (s : State) (lens : Level) : Option State :=
  if s.clk.resetn && reached s.clk.tb s.ms.timer then
    let t := s.withMs { s.ms with timer := s.clk.tb + micros s.mountPeriod }
    match s.ms.lastRaw with
    | none => some (t.firstSample lens)
    | some last => some (t.laterSample last lens)
  else none

/-- MOUNT_SAMPLE (R90). -/
def execMountSample (dt : Span) (lens : Level) (s : State) : Host.Outcome State Fault Refusal :=
  runEvent dt (·.lensSampled lens) s

end Sys2Proof.Machine
end

