-- ==== Sys2Proof/Machine/Records.lean ====
section
/-! DEFINITION. The Record Writer's steps (chapter 7): opening a slot, writing a record, closing a slot. -/

namespace Sys2Proof.Machine

/-- The Record Writer takes up a begin notice: the slot is named, and its STATE word is to be read (R145,
R146). Once the slot has been judged, the next SLOT_OPEN begins to write it (R147; DESIGN CHOICE, log 12). -/
def slotOpened (s : State) : Option State :=
  match s.rw.work, s.rw.queue with
  | .none, .opens n :: rest =>
    let index := s.rw.openIndex n
    some ((s.withRw { s.rw with
      nextSlot := index, queue := rest,
      work := .judging n index (n.ringBase + index * slotSize n.bands) false }))
  | .judged n index base overwrote, _ => some (s.openJudged n index base overwrote)
  | _, _ => none

/-- SLOT_OPEN (R146). -/
def execSlotOpen (dt : Span) (s : State) : Host.Outcome State Fault Refusal :=
  runEvent dt slotOpened s

/-- The Record Writer takes up a band record: LATE is judged and its words are to be written (R148,
R149). -/
def recordTakenUp (s : State) : Option State :=
  match s.rw.work, s.rw.queue, s.rw.openSlot with
  | .none, .record r :: rest, some o =>
    let r := r.takenUp s.clk.tb
    some (s.withRw { s.rw with queue := rest, work := .recording (recordWrites o r) r })
  | _, _, _ => none

/-- BAND_RECORD_WRITE (R148). -/
def execBandRecordWrite (dt : Span) (s : State) : Host.Outcome State Fault Refusal :=
  runEvent dt recordTakenUp s

/-- The TAG of a record has been granted: the slot counts it, the engine and the Frame Timer hear of it,
and the engine takes the oldest waiting band (R10, R12, R13, R14, R149). -/
def recordDone (s : State) : Option State :=
  match s.rw.work with
  | .recorded r =>
    let t := s.withRw { s.rw with
      work := .none, openSlot := s.rw.openSlot.map (·.count r.result.flags) }
    some ((t.withBe t.be.recordWritten).frameHears r).takeWaiting
  | _ => none

/-- RECORD_WRITTEN (R10). -/
def execRecordWritten (dt : Span) (s : State) : Host.Outcome State Fault Refusal :=
  runEvent dt recordDone s

/-- The Record Writer takes up an end notice: the final flags and WARN are settled, and the close is to be
written (R151, R152). -/
def slotCloses (s : State) : Option State :=
  match s.rw.work, s.rw.queue, s.rw.openSlot with
  | .none, .ends _ cut :: rest, some o =>
    some ((s.withRw { s.rw with queue := rest }).closeSlot o cut)
  | _, _, _ => none

/-- SLOT_CLOSE (R152). -/
def execSlotClose (dt : Span) (s : State) : Host.Outcome State Fault Refusal :=
  runEvent dt slotCloses s

end Sys2Proof.Machine
end

