-- ==== Sys2Proof/Machine/Dispatch.lean ====
section
/-! DEFINITION. One arm per command. -/

namespace Sys2Proof.Machine

def exec (i : Instr) (s : State) : Host.Outcome State Fault Refusal :=
  match i with
  | .resetnAssert dt => Sys2Proof.Machine.execResetnAssert dt s
  | .resetnRelease dt => Sys2Proof.Machine.execResetnRelease dt s
  | .memoryClearDone dt => Sys2Proof.Machine.execMemoryClearDone dt s
  | .clearingEnd dt => Sys2Proof.Machine.execClearingEnd dt s
  | .run dt value => Sys2Proof.Machine.execRun dt value s
  | .halt dt value => Sys2Proof.Machine.execHalt dt value s
  | .sreset dt value => Sys2Proof.Machine.execSreset dt value s
  | .causesWrite dt value => Sys2Proof.Machine.execCausesWrite dt value s
  | .enablesWrite dt value => Sys2Proof.Machine.execEnablesWrite dt value s
  | .tbLoRead dt => Sys2Proof.Machine.execTbLoRead dt s
  | .registerWriteIgnored dt addr value => Sys2Proof.Machine.execRegisterWriteIgnored dt addr value s
  | .portMemoryRead dt addr => Sys2Proof.Machine.execPortMemoryRead dt addr s
  | .portMemoryWrite dt addr data => Sys2Proof.Machine.execPortMemoryWrite dt addr data s
  | .portStrobeEnd dt => Sys2Proof.Machine.execPortStrobeEnd dt s
  | .memoryAccessComplete dt => Sys2Proof.Machine.execMemoryAccessComplete dt s
  | .frameStart dt highFor => Sys2Proof.Machine.execFrameStart dt highFor s
  | .bandRelease dt => Sys2Proof.Machine.execBandRelease dt s
  | .bandComputeEnd dt => Sys2Proof.Machine.execBandComputeEnd dt s
  | .frameWatchdogExpiry dt => Sys2Proof.Machine.execFrameWatchdogExpiry dt s
  | .slotOpen dt => Sys2Proof.Machine.execSlotOpen dt s
  | .bandRecordWrite dt => Sys2Proof.Machine.execBandRecordWrite dt s
  | .recordWritten dt => Sys2Proof.Machine.execRecordWritten dt s
  | .slotClose dt => Sys2Proof.Machine.execSlotClose dt s
  | .examinationBegin dt => Sys2Proof.Machine.execExaminationBegin dt s
  | .pageCopyDone dt => Sys2Proof.Machine.execPageCopyDone dt s
  | .profileHeaderFetched dt => Sys2Proof.Machine.execProfileHeaderFetched dt s
  | .profileBodyFetched dt => Sys2Proof.Machine.execProfileBodyFetched dt s
  | .mountSample dt lens => Sys2Proof.Machine.execMountSample dt lens s
  | .blankingExpiry dt axis => Sys2Proof.Machine.execBlankingExpiry dt axis s
  | .markTick dt => Sys2Proof.Machine.execMarkTick dt s
  | .endOfData dt => Sys2Proof.Machine.execEndOfData dt s
  | .replyWindowClose dt => Sys2Proof.Machine.execReplyWindowClose dt s
  | .replyReceived dt p2 p1 p0 status check => Sys2Proof.Machine.execReplyReceived dt p2 p1 p0 status check s
  | .transactionEnd dt => Sys2Proof.Machine.execTransactionEnd dt s
  | .lostArbitration dt => Sys2Proof.Machine.execLostArbitration dt s
  | .bitFault dt => Sys2Proof.Machine.execBitFault dt s
  | .receivedFrameFraming dt cause => Sys2Proof.Machine.execReceivedFrameFraming dt cause s
  | .noteReceived dt header data check => Sys2Proof.Machine.execNoteReceived dt header data check s
  | .breakRecognised dt held => Sys2Proof.Machine.execBreakRecognised dt held s
  | .sentBreakRelease dt wire => Sys2Proof.Machine.execSentBreakRelease dt wire s
  | .sensedBreakEnd dt => Sys2Proof.Machine.execSensedBreakEnd dt s
  | .linkFreeAfterBreak dt => Sys2Proof.Machine.execLinkFreeAfterBreak dt s
  | .stuck dt => Sys2Proof.Machine.execStuck dt s
  | .stuckEnd dt => Sys2Proof.Machine.execStuckEnd dt s
  | .wordDisturbed dt addr data => Sys2Proof.Machine.execWordDisturbed dt addr data s
  | .receivedFrameBegin dt => Sys2Proof.Machine.execReceivedFrameBegin dt s
  | .receivedFrameEnd dt => Sys2Proof.Machine.execReceivedFrameEnd dt s

end Sys2Proof.Machine
end

