-- ==== Sys2Proof/Safety.lean ====
section
/-! DEFINITION. The terms claims use: what the end of a step may change, and the invariants of the
machine. -/

namespace Sys2Proof.Machine

/-! ## What the end of a step may change -/

/-- The Record Writer after the end of a step: its work moves on, and when the last word of a close is
granted the slot closes: FRAME is raised, the open slot is gone and the index advances (R152). -/
def SettledRecords (u t : State) : Prop :=
  (t.rw = { u.rw with work := t.rw.work } ∧ t.al = u.al) ∨
  (∃ ws o, u.rw.work = .closing ws ∧ ws.length ≤ 1 ∧ u.rw.openSlot = some o ∧
    t.rw = { u.rw with
      work := .none, openSlot := none, nextSlot := (o.index + 1) % o.ringSlots } ∧
    t.al = u.al.raise .frame)

/-- `t` is `u` after the requestors have presented and the arbiter has granted (R163, R192). Everything
else stands: the time, the frame timer, the engine, the axes, the link and its wire, the mount, the
profile, the settings, the queue of notices, the registers of the Attention Logic, the port's strobe and
data, the FRAME input. -/
structure Settled (u t : State) : Prop where
  pending : t.pending = u.pending
  clk : t.clk = u.clk
  ft : t.ft = u.ft
  be : t.be = u.be
  axes : t.axes = u.axes
  lc : t.lc = u.lc
  ms : t.ms = u.ms
  pl : t.pl = { u.pl with awaiting := t.pl.awaiting }
  sr : t.sr = { u.sr with
    report := t.sr.report, marks := t.sr.marks, mirrorRest := t.sr.mirrorRest,
    awaiting := t.sr.awaiting }
  records : SettledRecords u t
  sp : t.sp = { u.sp with phase := t.sp.phase }
  wire : t.wire = u.wire
  fi : t.fi = u.fi
  clearHold : t.ma.clearHold = u.ma.clearHold
  portHold : t.ma.portHold = u.ma.portHold
  /-- an access in flight stays in flight -/
  inflight : u.ma.inflight.isSome → t.ma.inflight = u.ma.inflight
  /-- a word of memory changes only by the write granted at the end of this step -/
  mem : ∀ a, (∀ acc, u.ma.inflight = none → t.ma.inflight = some acc → acc.read = none → acc.addr ≠ a) →
    memRead t.mem a = memRead u.mem a

/-! ## Words claims share -/

/-- `q` is `n / d` rounded to the nearest integer, halves away from zero, for a divisor of either sign
(Introduction, "Rounding"). -/
def RoundsTo (n d q : Int) : Prop :=
  2 * (n - q * d).natAbs ≤ d.natAbs ∧ (2 * (n - q * d).natAbs = d.natAbs → n.natAbs < (q * d).natAbs)

/-- The word whose bits, from bit 0 up, a list gives; the bits above them are 0. -/
def bitsWord (bs : List Bool) : Word := BitVec.ofNat 16 (bs.foldr (fun b n => 2 * n + b.toNat) 0)

/-- The Attention Logic with a cause raised when a condition holds (R188). -/
def Attention.raiseWhen (al : Attention) (b : Bool) (c : Cause) : Attention :=
  if b then al.raise c else al

/-- An axis that starts again (R30, R33, R34): SEEKING, no track, counts 0, blanking as given; an axis not
in mode TRACK is as it was. -/
def restartedAxis (tracked : Bool) (b : Blanking) (r : AxisRec) : AxisRec :=
  if tracked then { r with st := .seeking, track := [], misses := 0, good := 0, blanking := b } else r

/-- Every axis in mode TRACK starts again. -/
def State.restartedAxes (s : State) (b : Blanking) : Axes :=
  { focus := restartedAxis (s.tracks .focus) b s.axes.focus,
    iris := restartedAxis (s.tracks .iris) b s.axes.iris,
    zoom := restartedAxis (s.tracks .zoom) b s.axes.zoom }

/-- The records once a break has ended a MARK: its axis takes BREAK, unless its mode or unit has changed (R25). -/
def State.markBroken (s : State) (mark : Option (Axis × Nat)) (axes : Axes) : Axes :=
  match mark with
  | some (x, n) =>
    if s.tracks x = true ∧ s.unit x = n then axes.set x { axes.get x with lastCompletion := .broken }
    else axes
  | none => axes

/-- The records once a break has ended the transaction in flight and the waiting MARK (R114, R116). -/
def State.marksBroken (s : State) (axes : Axes) : Axes :=
  s.markBroken s.lc.waiting (s.markBroken (s.lc.trans.map (fun m => (m.axis, m.unit))) axes)

/-- Some axis in mode TRACK is LOST. -/
def State.someTrackLost (s : State) : Bool :=
  (s.tracks .focus && s.axes.focus.st == .lost) || (s.tracks .iris && s.axes.iris.st == .lost) ||
  (s.tracks .zoom && s.axes.zoom.st == .lost)

/-- Some axis in mode TRACK is not LOST. -/
def State.someTrackKept (s : State) : Bool :=
  (s.tracks .focus && s.axes.focus.st != .lost) || (s.tracks .iris && s.axes.iris.st != .lost) ||
  (s.tracks .zoom && s.axes.zoom.st != .lost)

/-- A frame start on the state `u`, its edge high for `h`, has begun a frame under the settings `a` (R3, R16, R187):
T0, the part RUNNING, the next number, the band table, the watchdog; the frame before cut, the begin notice sent, or
held behind a CUTTING frame; the look begun if no examination was in flight (R125). The bands whose release time is
not after T0 are raised at once, in order (R6): an IDLE engine takes the first, as the axes, the profile and the mount
now stand, the others wait. `served` is the state whose engine and held values they meet. -/
def FrameBegins (u served : State) (a : Adopted) (h : Time) (ringReset : Bool) (t : State) : Prop :=
  let c := u.cutFrame
  let t0 := u.clk.tb - h
  let number := u.ft.frameNo + 1
  let notice := WorkItem.opens
    { number := number, t0 := t0, bands := a.settings.bands, ringBase := a.settings.ringBase,
      ringSlots := a.settings.ringSlots, seq := a.seq, ringReset := ringReset }
  let row (b : Nat) := bandTiming a.settings.geometry t0 b
  t.al.part = .running ∧ t.ft.t0 = t0 ∧ t.ft.frameNo = number ∧
  t.ft.watchdog = some (t0 + micros a.settings.frameTimeout) ∧
  t.ft.current = some
    { number := number, t0 := t0, geom := a.settings.geometry, table := bandTable a.settings.geometry t0,
      settings := a.settings, condition := .opened } ∧
  t.ft.cutting = c.ft.cutting ∧
  (c.ft.cutting = none → t.rw.queue = c.rw.queue ++ [notice] ∧ t.ft.heldNotices = c.ft.heldNotices) ∧
  (c.ft.cutting ≠ none → t.rw.queue = c.rw.queue ∧ t.ft.heldNotices = c.ft.heldNotices ++ [notice]) ∧
  (u.sr.exam = .none → t.sr.exam = .readSelector number) ∧
  (u.sr.exam ≠ .none → t.sr.exam = u.sr.exam) ∧
  ∃ k, t.ft.nextRelease = k ∧ k ≤ a.settings.bands ∧ (∀ b < k, reached t0 (row b).release = true) ∧
    (k < a.settings.bands → reached t0 (row k).release = false) ∧
    (k = 0 → t.be.engine = served.be.engine ∧ t.ft.released = []) ∧
    (served.be.engine ≠ .idle → t.be.engine = served.be.engine ∧ t.ft.released = List.range k) ∧
    (served.be.engine = .idle → 0 < k → t.ft.released = (List.range k).tail ∧
      t.be.engine = .computing
        { frameNo := number, band := 0, deadline := (row 0).deadline, ts := (row 0).ts, te := (row 0).te,
          stale := false,
          snapshot := { axes := t.axes, profile := t.pl.st, store := t.pl.store, mount := t.ms.mount,
                        settings := a.settings, held := served.be.held } })

/-! ## Invariants -/

/-- The memory has its canonical form. -/
def State.memoryOk (s : State) : Prop := memWf s.mem = true

/-- ATTN is low exactly while a cause is SET and enabled (R189). -/
def State.attentionOk (s : State) : Prop := s.al.attnLow = (s.al.causes &&& s.al.enables != 0)

/-- WARN is HIGH exactly while the stretch count is above 0 in ARMED, RUNNING or FRAMELESS (R156). -/
def State.warnOk (s : State) : Prop := s.rw.warnOut = (decide (0 < s.rw.warnCount) && s.al.part.live)

/-- The port hold is set exactly in CLEARING and keeps port accesses out; no access is in flight during
the memory clear (R163, R172). -/
def State.holdsOk (s : State) : Prop :=
  (s.ma.portHold = true ↔ s.al.part = .clearing) ∧
  (s.ma.clearHold = true → s.ma.inflight = none ∧ s.al.part = .clearing) ∧
  (s.ma.portHold = true → s.ma.serves .systemPort = false)

/-- The link is OFF exactly in CLEARING and HALTED, with nothing waiting, in flight or owed (R120). -/
def State.linkOk (s : State) : Prop :=
  (s.lc.st = .off ↔ s.al.part.live = false) ∧
  (s.lc.st = .off → s.lc.tick = none ∧ s.lc.trans = none ∧ s.lc.waiting = none ∧ s.lc.owed = false)

/-- The profile is READY only while the mount is PRESENT (R84), and the mount is ABSENT before its first
sample (R94). -/
def State.profileOk (s : State) : Prop :=
  (s.pl.st = .ready → s.ms.mount = .present) ∧ (s.ms.lastRaw = none → s.ms.mount = .absent)

/-- The times of a track rise strictly (R27). -/
def trackRises : List Sample → Bool
  | a :: b :: rest => later b.time a.time && trackRises (b :: rest)
  | _ => true

/-- An axis record agrees with its mode (R22), its track rises within its capacity (R27), its miss count
stays in range (R28). -/
def axisOk (x : Axis) (mode : AxisMode) (r : AxisRec) : Prop :=
  (mode = .off → r = AxisRec.idle) ∧
  (mode = .fixed → r = { AxisRec.idle with st := .fixed }) ∧
  (mode = .track → r.st ≠ .idle ∧ r.st ≠ .fixed) ∧
  trackRises r.track = true ∧ r.track.length ≤ trackCap x ∧ r.misses ≤ 255

/-- Every axis record agrees with the settings in force. -/
def State.axesOk (s : State) : Prop := ∀ x, axisOk x (s.mode x) (s.axes.get x)

/-- An axis block that passed the checks of chapter 6 (R130, R132, R133). -/
def AxisSettings.legal (a : AxisSettings) (x : Axis) (schedule : List (Option Axis)) : Prop :=
  a.fixedCoord ≤ 65535 ∧ (1 ≤ a.qualify ∧ a.qualify ≤ 16) ∧
  (1 ≤ a.staleMisses ∧ a.staleMisses ≤ a.lostMisses ∧ a.lostMisses ≤ 255) ∧
  (if x = .focus then a.average = 1 else a.average ∈ [1, 2, 4, 8]) ∧
  (a.mode = .track →
    (1 ≤ a.unit ∧ a.unit ≤ 4) ∧ (2 ≤ a.points.length ∧ a.points.length ≤ mapCapacity x) ∧
    mapInOrder a.points = true ∧ some x ∈ schedule ∧
    ∀ p ∈ a.points, -8388608 ≤ p.1 ∧ p.1 ≤ 8388607 ∧ p.2 ≤ 65535)

/-- Two axes in mode TRACK have different units (R133). -/
def AxisSettings.apart (a b : AxisSettings) : Prop :=
  a.mode = .track → b.mode = .track → a.unit ≠ b.unit

/-- Settings that passed the checks of chapter 6: every field that R129 and R130 give a range, and the
checks LAYOUT (without the extent held), MAP, ADDRESS, SCHEDULE and PERIOD (R131 to R134). -/
def Settings.legal (c : Settings) : Prop :=
  (16 ≤ c.rows ∧ c.rows ≤ 8192) ∧ (1 ≤ c.bands ∧ c.bands ≤ 32 ∧ c.bands ≤ c.rows) ∧
  (256 ≤ c.lineTime ∧ c.lineTime ≤ 65535) ∧ c.readoutOffset ≤ 65535 ∧ (1 ≤ c.exposure ∧ c.exposure ≤ 1000000) ∧
  c.releaseLead ≤ 10000 ∧ c.lockCoord ≤ 65535 ∧ (1000 ≤ c.frameTimeout ∧ c.frameTimeout ≤ 2000000) ∧
  (2 ≤ c.ringSlots ∧ c.ringSlots ≤ 16) ∧
  (Config.freeArea ≤ c.ringBase ∧ c.ringBase + ringSize c.ringSlots c.bands ≤ Config.memoryWords) ∧
  (Config.freeArea ≤ c.profileBase ∧ c.profileBase < Config.memoryWords) ∧
  (c.profileBase < c.ringBase ∨ c.ringBase + ringSize c.ringSlots c.bands ≤ c.profileBase) ∧
  (16384 ≤ c.headroom ∧ c.headroom ≤ 24576) ∧ (4194304 ≤ c.scaleMax ∧ c.scaleMax ≤ 8388608) ∧
  c.shiftMax ≤ 32767 ∧ c.shadingStrength ≤ 256 ∧ (4096 ≤ c.gainMax ∧ c.gainMax ≤ 32767) ∧
  c.extrapLimit ≤ 20000 ∧ c.warnStretch ≤ 255 ∧ c.mountPeriod ∈ [1, 2, 4, 8] ∧
  (100 ≤ c.markPeriod ∧ c.markPeriod ≤ 5000 ∧ 96 * c.linkRate.tau ≤ c.markPeriod) ∧
  c.linkLatency ≤ 255 ∧ c.blankTime ≤ 1000 ∧ c.schedule.length = 8 ∧
  c.focus.legal .focus c.schedule ∧ c.iris.legal .iris c.schedule ∧ c.zoom.legal .zoom c.schedule ∧
  c.focus.apart c.iris ∧ c.focus.apart c.zoom ∧ c.iris.apart c.zoom

/-- Every settings copy accepted or in force passed the checks. -/
def State.settingsOk (s : State) : Prop :=
  (∀ a, s.sr.pendingCopy = some a → a.settings.legal) ∧
  (∀ a, s.sr.inForce = some a → a.settings.legal)

/-- While RESETn is low the part holds its hard-reset values (R181): all but the queue, the words of
memory and a strobe held on the port's inputs stands as a hard reset leaves it. -/
def State.resetHeld (s : State) : Prop := s.clk.resetn = false → s = s.hardReset

end Sys2Proof.Machine
end

