-- ==== Sys2Proof/Certificates/Slice0/Obligations.lean ====
section
/-! DEFINITION. The statements for the provers. In each, `u` is the state once the command's elapsed time
has passed, and `Settled E t` says that `t` is `E` after the requestors have presented and the arbiter has
granted, so `E` shows the command's whole effect and its frame. That a step ends so, with an access made at its
grant, is the model's choice (log 5, 6); no rule is cited for it. -/

open Sys2Proof Sys2Proof.Machine

/-! ## The queue and reset -/

/-- The front command runs on the state with the queue's rest. On an empty queue a microsecond without an edge
on AXL passes, which is the model's choice (log 2): the timebase counts it, FRAME's count (log 21) too, and only
the link's reading of the wire can change with it. -/
def Obligations.StepTakesTheFrontCommand : Prop :=
  (∀ (c : Instr) (rest : List Instr) (s : State),
    s.pending = c :: rest → step s = exec c { s with pending := rest }) ∧
  (∀ s : State, s.pending = [] → s.clk.resetn = true →
    ∃ t, step s = .next t ∧
      t = { s with clk := { tb := s.clk.tb + 1, resetn := true }, lc := t.lc, wire := t.wire,
                   fi := { since := s.fi.since + 1 } } ∧
      t.wire.level = s.wire.level ∧ t.wire.age = s.wire.age + 1 ∧
      t.lc = { s.lc with reading := t.lc.reading, dominant := t.lc.dominant } ∧
      (s.lc.st = .off → t.lc = s.lc)) ∧
  (∀ s : State, s.pending = [] → s.clk.resetn = false → step s = .next s)

/-- The state when RESETn has returned high meets every invariant, with the values the chapters give, but for
three that are the model's choices: the moment taken for the reset state, memory reading 0 from it on, and the
count of FRAME from 0 (log 4, 7, 21). -/
def Obligations.ResetStateIsSound : Prop :=
  State.reset.clk = { tb := 0, resetn := true } ∧ State.reset.al.part = .clearing ∧
  State.reset.al.causes = 0 ∧ State.reset.al.enables = 0 ∧ State.reset.al.faultAddr = 0 ∧
  State.reset.al.tbLatch = 0 ∧ State.reset.ft.t0 = 0 ∧ State.reset.ft.frameNo = 0 ∧
  State.reset.ft.current = none ∧ State.reset.ft.watchdog = none ∧ State.reset.be.engine = .idle ∧
  State.reset.be.held = { pos := none, u := none, a := none, z := none } ∧
  State.reset.lc.st = .off ∧ State.reset.lc.seq = 0 ∧ State.reset.lc.pointer = 0 ∧
  State.reset.ms.mount = .absent ∧ State.reset.ms.lastRaw = none ∧ State.reset.ms.timer = 4000 ∧
  State.reset.pl.st = .empty ∧ State.reset.sr.inForce = none ∧ State.reset.sr.lastPair = none ∧
  State.reset.rw.nextSlot = 0 ∧ State.reset.rw.warnCount = 0 ∧ State.reset.rw.warnOut = false ∧
  State.reset.fi.since = 0 ∧ State.reset.ma.clearHold = true ∧ State.reset.ma.portHold = true ∧
  (∀ a, memRead State.reset.mem a = { data := 0, parity := true }) ∧
  State.reset.memoryOk ∧ State.reset.attentionOk ∧ State.reset.warnOk ∧ State.reset.holdsOk ∧
  State.reset.linkOk ∧ State.reset.profileOk ∧ State.reset.axesOk ∧ State.reset.settingsOk ∧
  State.reset.resetHeld

/-- The falling edge of RESETn: the timebase is held at 0, every block takes its hard-reset values, the outputs
are released, and only the words of memory, the queue, a strobe on the port's inputs and the level of AXL stand.
That a strobe stays on the part's inputs is the model's reading (log 37). Its choices are the level that stays
on AXL with its times at 0 (log 41), the empty profile store and the failed serial 0 (log 10), the count of
FRAME at 0 (log 21), no word on D from a read of TB_LO (log 22), and the next-release index 0 (log 46). -/
def Obligations.ResetnAssertHoldsEveryBlock : Prop :=
  ∀ (dt : Span) (s : State), let u := s.elapse dt
    s.clk.resetn = true →
    ∃ t, exec (.resetnAssert dt) s = .next t ∧
      t.clk = { tb := 0, resetn := false } ∧ t.pending = s.pending ∧ t.mem = s.mem ∧
      t.ft = State.reset.ft ∧ t.be = State.reset.be ∧ t.axes = State.reset.axes ∧
      t.lc = State.reset.lc ∧ t.ms = State.reset.ms ∧ t.pl = State.reset.pl ∧
      t.sr = State.reset.sr ∧ t.rw = State.reset.rw ∧ t.ma = State.reset.ma ∧ t.al = State.reset.al ∧
      t.sp = { strobe := s.sp.strobe, phase := .idle, dataOut := none } ∧
      t.wire = { level := u.wire.level, age := 0, own := 0 } ∧
      t.fi = State.reset.fi ∧ t.waitLow = false ∧ t.drivesAxl = false

/-- RESETn returns high on a part held in hard reset: the timebase counts from 0, the part is CLEARING, memory
reads 0 throughout, and a strobe still held is a new access that waits (R171; log 37). Memory reading 0 from
here on, while the clear is still running, is the model's choice (log 7), and so are the reset values that the
book does not give (log 10, 21, 22, 41, 46). -/
def Obligations.ResetnReleaseStartsClearing : Prop :=
  ∀ (dt : Span) (s : State), s.clk.resetn = false → s.resetHeld →
    ∃ t, exec (.resetnRelease dt) s = .next t ∧
      t.clk = { tb := 0, resetn := true } ∧ t.al = State.reset.al ∧
      (∀ a, memRead t.mem a = { data := 0, parity := true }) ∧
      t.ma.clearHold = true ∧ t.ma.portHold = true ∧ t.ma.inflight = none ∧
      t.sp.strobe = s.sp.strobe ∧ t.waitLow = s.sp.strobe.isSome ∧
      (s.sp.strobe = none →
        t = { State.reset with
          pending := s.pending, wire := { State.reset.wire with level := t.wire.level } })

/-- CLEARING. The memory clear is done: the clear hold drops, every mirrored field is marked, and the Settings
Reader's write of PART_STATE is granted first. CLEARING ends once the clear, the mirror writes and the first
mount sample with its write are done: the part is HALTED and the port hold is cleared; before that the command
changes only the time. That the first grant falls in the same step is the model's choice (log 6); that the
mirror writes are done when no mark, second word, report word or reader request is left is its reading (log 34).
A command that is not due changes only the time: the model's choice (log 3). -/
def Obligations.ClearingWritesTheMirrorAndEnds : Prop :=
  (∀ (dt : Span) (s : State), let u := s.elapse dt
    u.clk.resetn = true → u.ma = { Arbiter.reset with reqPort := u.ma.reqPort } →
    u.ma.portHold = true → u.rw.work = .none → u.sr.report = [] → u.sr.mirrorRest = none →
    (∀ l, u.pl.load = some l → l.wants = false) →
    ∃ t, exec (.memoryClearDone dt) s = .next t ∧
      Settled { u with ma := { u.ma with clearHold := false },
                       sr := { u.sr with marks := mirrorFields } } t ∧
      t.sr.marks = mirrorFields.tail ∧
      t.ma.inflight = some { who := .settingsReader, addr := 0x0010, read := none } ∧
      t.mem = memWrite u.mem 0x0010 (BitVec.ofNat 16 u.al.part.code)) ∧
  (∀ (dt : Span) (s : State), let u := s.elapse dt
    (u.clk.resetn = true → u.al.part = .clearing → u.ma.clearHold = false → u.ms.lastRaw ≠ none →
      u.sr.marks = [] → u.sr.mirrorRest = none → u.sr.report = [] → u.ma.reqSr = none →
      ∃ t, exec (.clearingEnd dt) s = .next t ∧
        Settled { u with al := { u.al with part := .halted },
                         ma := { u.ma with portHold := false } } t) ∧
    (u.ma.clearHold = true ∨ u.ms.lastRaw = none ∨ u.sr.marks ≠ [] ∨ u.ma.reqSr ≠ none →
      exec (.clearingEnd dt) s = .next u))

/-! ## CONTROL and the registers -/

/-- RUN in HALTED: ARMED, the 40-bit-time run-start break at the rate in force, every TRACK axis SEEKING with
blanking pending, WARN by the stretch count; nothing else changes. -/
def Obligations.RunArmsThePart : Prop :=
  ∀ (dt : Span) (v : Word) (s : State), let u := s.elapse dt
    u.clk.resetn = true → u.sp.strobe = none → u.al.part = .halted → u.lc.trans = none →
    u.lc.waiting = none →
    v.getLsbD 0 = true → v.getLsbD 1 = false → v.getLsbD 2 = false →
    ∃ t, exec (.run dt v) s = .next t ∧
      Settled { u with
        al := ({ u.al with part := .armed } : Attention).raiseWhen u.someTrackLost .axis,
        axes := u.restartedAxes (.pending u.blankTime),
        lc := { u.lc with
          st := .breakTx, tick := none, rx := none, reading := none, dominant := none,
          breakEnd := some (u.clk.tb + micros (40 * u.rate.tau)), breakOver := false },
        rw := { u.rw with warnOut := decide (0 < u.rw.warnCount) } } t

/-- HALT in ARMED, RUNNING or FRAMELESS: an OPEN frame is cut as a frame start cuts it, the watchdog stops, the
link goes OFF without a report, WARN goes LOW, and the part is HALTED. -/
def Obligations.HaltHaltsThePart : Prop :=
  ∀ (dt : Span) (v : Word) (s : State), let u := s.elapse dt
    u.clk.resetn = true → u.sp.strobe = none →
    (u.al.part = .armed ∨ u.al.part = .running ∨ u.al.part = .frameless) →
    v.getLsbD 1 = true → v.getLsbD 2 = false →
    ∃ t, exec (.halt dt v) s = .next t ∧
      Settled { u with
        ft := { u.cutFrame.ft with watchdog := none },
        lc := { u.lc with
          st := .off, tick := none, waiting := none, trans := none, rx := none, reading := none,
          dominant := none, owed := false, breakEnd := none, breakOver := false },
        al := { u.al with part := .halted },
        rw := { u.cutFrame.rw with warnOut := false } } t

/-- SRESET out of CLEARING: every block takes its soft-reset values, the port, the memory, the timebase, its
latch, T0, the mark sequence and the mount sensor keep theirs, and three requests are withdrawn. Given as the
state in which the step ends, once its requests are presented. The three report words and their order, with the
words queued before them dropped, are the model's reading (log 27). -/
def Obligations.SresetSoftResetsEveryBlock : Prop :=
  ∀ (dt : Span) (v : Word) (s : State), let u := s.elapse dt
    u.clk.resetn = true → u.sp.strobe = none → u.al.part ≠ .clearing → v.getLsbD 2 = true →
    let e : State := { u with
      ft := { State.reset.ft with t0 := u.ft.t0 }, be := State.reset.be, axes := State.reset.axes,
      lc := { State.reset.lc with seq := u.lc.seq },
      pl := { u.pl with st := .empty, loaded := none, load := none, reason := .none, awaiting := false },
      sr := { State.reset.sr with
        report := [(0x000E, 0), (0x000F, 0), (0x0008, 0)], marks := mirrorFields },
      rw := State.reset.rw,
      ma := { u.ma with reqRw := none, reqSr := none, reqPl := none },
      al := { u.al with part := .halted, causes := 0, enables := 0, faultAddr := 0, attnLow := false } }
    exec (.sreset dt v) s = .next (e.settle u) ∧
    (e.settle u).rw.work = .none ∧ (e.settle u).sr.marks = mirrorFields ∧
    (e.settle u).ma.reqRw = none ∧ (e.settle u).ma.reqPl = none

/-- A write to CAUSES clears the causes written as 1, a write to ENABLES sets the eleven enables, and either
re-judges ATTN; during CLEARING both are ignored. -/
def Obligations.CausesAndEnablesWrites : Prop :=
  ∀ (dt : Span) (v : Word) (s : State), let u := s.elapse dt
    (u.clk.resetn = true → u.sp.strobe = none → u.al.part ≠ .clearing →
      (∃ t, exec (.causesWrite dt v) s = .next t ∧
        Settled { u with al := { u.al with
          causes := u.al.causes &&& ~~~(v.setWidth 11),
          attnLow := (u.al.causes &&& ~~~(v.setWidth 11)) &&& u.al.enables != 0 } } t) ∧
      (∃ t, exec (.enablesWrite dt v) s = .next t ∧
        Settled { u with al := { u.al with
          enables := v.setWidth 11, attnLow := u.al.causes &&& v.setWidth 11 != 0 } } t)) ∧
    (u.al.part = .clearing →
      exec (.causesWrite dt v) s = .next u ∧ exec (.enablesWrite dt v) s = .next u)

/-- What the register window reads: IDENT, the part state's code, CAUSES and ENABLES with a bit for each cause
and the bits above them 0, FAULT_ADDR, the timebase; 0 at CONTROL and at any other address. A read of TB_LO
returns the low half of the timebase and latches the high half, which TB_HI reads; the latch is 0 after a hard
reset and kept by a soft reset. The field that holds the value driven on D is the model's own (log 22). -/
def Obligations.RegisterReadsAndTheTimebaseLatch : Prop :=
  (∀ (dt : Span) (s : State), let u := s.elapse dt
    u.clk.resetn = true → u.sp.strobe = none →
    ∃ t, exec (.tbLoRead dt) s = .next t ∧
      Settled { u with al := { u.al with
        tbLatch := u.clk.tb.extractLsb' 16 16, tbLoRead := some (u.clk.tb.extractLsb' 0 16) } } t ∧
      t.registerRead 7 = u.clk.tb.extractLsb' 16 16 ∧ u.registerRead 6 = u.clk.tb.extractLsb' 0 16) ∧
  State.reset.registerRead 7 = 0 ∧
  (∀ s t : State, s.sresetCommand = some t → t.registerRead 7 = s.registerRead 7) ∧
  (∀ s : State,
    s.registerRead 0 = 0x3410 ∧ s.registerRead 1 = 0 ∧
    s.registerRead 2 = (match s.al.part with
      | .clearing => 0
      | .halted => 1
      | .armed => 2
      | .running => 3
      | .frameless => 4) ∧
    s.registerRead 3 = (0 : BitVec 5) ++ s.al.causes ∧
    s.registerRead 4 = (0 : BitVec 5) ++ s.al.enables ∧
    s.registerRead 5 = (0 : BitVec 1) ++ s.al.faultAddr ∧
    s.registerRead 6 = s.clk.tb.extractLsb' 0 16 ∧ s.registerRead 7 = s.al.tbLatch ∧
    (∀ a, 7 < a → s.registerRead a = 0)) ∧
  (∀ (al : Attention) (c d : Cause), (al.raise c).isSet c = true ∧
    (d ≠ c → (al.raise c).isSet d = al.isSet d)) ∧
  [Cause.frame, .adopt, .refuse, .profile, .pfault, .lens, .axis, .frameloss, .overrun, .parity,
    .stuck].map Cause.bit = List.range 11

/-- A register write at any address but 1, 3 and 4 changes only the time, and so does any register write during
CLEARING or while RESETn is low. A write to CONTROL that the part state does not serve leaves no trace, and
CONTROL reads 0. While a memory strobe is held the port has its one access (R167): that a register access sent
then is not made is the model's choice (log 22), and so is that a command with no effect lets the time pass (log
3). -/
def Obligations.IgnoredRegisterWrites : Prop :=
  ∀ (dt : Span) (addr : BitVec 15) (v : Word) (s : State), let u := s.elapse dt
    ((addr ≠ 1 ∧ addr ≠ 3 ∧ addr ≠ 4) ∨ u.al.part = .clearing ∨ u.clk.resetn = false →
      exec (.registerWriteIgnored dt addr v) s = .next u) ∧
    u.registerRead 1 = 0 ∧
    (u.al.part = .clearing ∨ u.clk.resetn = false ∨ u.sp.strobe ≠ none →
      exec (.run dt v) s = .next u ∧ exec (.halt dt v) s = .next u ∧ exec (.sreset dt v) s = .next u) ∧
    (u.al.part = .halted → v.getLsbD 1 = true → v.getLsbD 2 = false → exec (.halt dt v) s = .next u) ∧
    (u.al.part = .armed ∨ u.al.part = .running ∨ u.al.part = .frameless →
      v.getLsbD 0 = true → v.getLsbD 1 = false → v.getLsbD 2 = false → exec (.run dt v) s = .next u) ∧
    (u.sp.strobe ≠ none →
      exec (.registerWriteIgnored dt addr v) s = .next u ∧ exec (.causesWrite dt v) s = .next u ∧
      exec (.enablesWrite dt v) s = .next u ∧ exec (.tbLoRead dt) s = .next u)

/-! ## The port and memory -/

/-- A strobe on an idle port asserts WAITn and presents its request. On an idle arbiter the access is granted at
once: a read takes the word as it stands, a write stores it with good parity. The word is read or written at the
grant, which falls in the same step: the model's reading (log 5, 6). -/
def Obligations.PortAccessBegins : Prop :=
  ∀ (dt : Span) (addr : BitVec 15) (data : Word) (s : State), let u := s.elapse dt
    u.clk.resetn = true → u.sp = { strobe := none, phase := .idle, dataOut := none } →
    u.ma.serves .systemPort = false → u.ma.reqPort = none →
    (∃ t, exec (.portMemoryRead dt addr) s = .next t ∧ t.waitLow = true ∧
      Settled { u with sp := { strobe := some { addr := addr.toNat, write := none },
                               phase := .waiting false, dataOut := none } } t ∧
      t.sp.phase = .waiting true ∧
      (u.ma.inflight = none → u.ma.clearHold = false → u.ma.portHold = false → u.ma.reqRw = none →
        u.rw.work = .none →
        t.ma.inflight = some { who := .systemPort, addr := addr.toNat,
                               read := some (memRead u.mem addr.toNat) })) ∧
    (∃ t, exec (.portMemoryWrite dt addr data) s = .next t ∧ t.waitLow = true ∧
      Settled { u with sp := { strobe := some { addr := addr.toNat, write := some data },
                               phase := .waiting false, dataOut := none } } t ∧
      t.sp.phase = .waiting true ∧
      (u.ma.inflight = none → u.ma.clearHold = false → u.ma.portHold = false → u.ma.reqRw = none →
        u.rw.work = .none →
        t.ma.inflight = some { who := .systemPort, addr := addr.toNat, read := none } ∧
        t.mem = memWrite u.mem addr.toNat data))

/-- The completion of a port access: the port enters DONE and drives the data as stored; a read that finds bad
parity latches FAULT_ADDR and raises PARITY, also when the access was abandoned. The end of a strobe returns the
port to IDLE, releasing D and WAITn; a request not yet granted is withdrawn. FAULT_ADDR is latched at the
completion: the model's reading (log 26). -/
def Obligations.PortAccessCompletesAndEnds : Prop :=
  (∀ (dt : Span) (s : State) (addr : Nat) (found : Option Stored), let u := s.elapse dt
    u.ma.inflight = some { who := .systemPort, addr := addr, read := found } →
    let bad := match found with
      | some v => !v.good
      | none => false
    let al := if bad then ({ u.al with faultAddr := BitVec.ofNat 15 addr } : Attention).raise .parity
      else u.al
    (u.sp.phase = .waiting true →
      ∃ t, exec (.memoryAccessComplete dt) s = .next t ∧
        t = State.settle { u with
          ma := { u.ma with inflight := none }, al := al,
          sp := { u.sp with phase := .done, dataOut := found.map Stored.data } } u ∧
        t.sp.phase = .done ∧ t.sp.dataOut = found.map Stored.data ∧ t.waitLow = false) ∧
    (u.sp.phase ≠ .waiting true →
      ∃ t, exec (.memoryAccessComplete dt) s = .next t ∧
        t = State.settle { u with ma := { u.ma with inflight := none }, al := al } u ∧
        t.sp.dataOut = u.sp.dataOut ∧ (u.sp.phase = .idle → t.sp.phase = .idle))) ∧
  (∀ (dt : Span) (s : State), let u := s.elapse dt
    u.sp.strobe ≠ none →
    ∃ t, exec (.portStrobeEnd dt) s = .next t ∧
      t = State.settle { u with
        sp := { strobe := none, phase := .idle, dataOut := none },
        ma := { u.ma with reqPort := none } } u ∧
      t.sp = { strobe := none, phase := .idle, dataOut := none } ∧ t.waitLow = false ∧
      t.ma.reqPort = none)

/-- With nothing in flight and the clear hold clear, the arbiter chooses of the requests pending the one of
highest priority, the port's left out while the port hold is set, and chooses none only if none can be served.
What it chooses it grants: the access is in flight, and its one word is read or written. That the word is read
or written at the grant is the model's reading (log 5). -/
def Obligations.ArbiterChoosesTheHighestPriority : Prop :=
  (∀ (ma : Arbiter) (who : Requestor) (r : Request), ma.choice = some (who, r) →
    ma.inflight = none ∧ ma.clearHold = false ∧
    (match who with
      | .recordWriter => ma.reqRw = some r
      | .systemPort => ma.reqPort = some r ∧ ma.portHold = false ∧ ma.reqRw = none
      | .settingsReader => ma.reqSr = some r ∧ ma.reqRw = none ∧
          (ma.portHold = true ∨ ma.reqPort = none)
      | .profileLoader => ma.reqPl = some r ∧ ma.reqRw = none ∧ ma.reqSr = none ∧
          (ma.portHold = true ∨ ma.reqPort = none))) ∧
  (∀ ma : Arbiter, ma.inflight = none → ma.clearHold = false →
    (ma.reqRw.isSome = true ∨ (ma.reqPort.isSome = true ∧ ma.portHold = false) ∨
      ma.reqSr.isSome = true ∨ ma.reqPl.isSome = true) →
    ma.choice.isSome = true) ∧
  (∀ (s : State) (who : Requestor) (r : Request), s.ma.choice = some (who, r) →
    ∃ acc, s.grant.ma.inflight = some acc ∧ acc.who = who ∧ acc.addr = r.addr ∧
      (r.write = none → s.grant.mem = s.mem ∧ acc.read = some (memFetch s.mem s.clk.tb r.addr)) ∧
      (∀ w, r.write = some w → s.grant.mem = memWrite s.mem r.addr w ∧ acc.read = none))

/-- A command marks every mirrored field whose item it changed, unless the field's write has been presented in
the same step with the item as it then stands. A marked field goes out when the Settings Reader is free and owes
no second word and no report: its mark is cleared and its first word presented as the item stands, the second
word kept with it. Every field lies at its address of R174 and holds its item in the encodings given there, a
field of two words high word first. The order of the Settings Reader's writes is the model's choice (log 15). -/
def Obligations.MarkedFieldIsPresented : Prop :=
  (∀ (s : State) (f : MirrorField) (fs : List MirrorField),
    s.ma.free .settingsReader = true → s.ma.clearHold = false → s.sr.mirrorRest = none →
    s.sr.report = [] → s.sr.marks = f :: fs →
    (s.presentSr).sr.marks = fs ∧
    (∃ w rest, s.mirrorWords f = w :: rest ∧ rest.length ≤ 1 ∧
      (s.presentSr).ma.reqSr = some { addr := f.addr, write := some w } ∧
      (s.presentSr).sr.mirrorRest = rest.head?.map (fun v => (f.addr + 1, v)))) ∧
  (∀ (s before : State) (f : MirrorField), f ∈ mirrorFields →
    (f ∈ (s.markChanged before).sr.marks ↔
      f ∈ s.sr.marks ∨ s.mirrorWords f ≠ before.mirrorWords f)) ∧
  (∀ (c : Instr) (s t : State) (f : MirrorField), s.memoryOk → exec c s = .next t →
    (∀ dt, c ≠ .resetnAssert dt) → f ∈ mirrorFields → t.mirrorWords f ≠ s.mirrorWords f →
    f ∈ t.sr.marks ∨
    ∃ w rest, t.mirrorWords f = w :: rest ∧
      (t.ma.reqSr = some { addr := f.addr, write := some w } ∨
        (t.ma.inflight = some { who := .settingsReader, addr := f.addr, read := none } ∧
          memRead t.mem f.addr = { data := w, parity := parityFor w }))) ∧
  (∀ (s : State) (x : Axis),
    let one (f : MirrorField) (at' n : Nat) := f.addr = at' ∧ s.mirrorWords f = [BitVec.ofNat 16 n]
    let two (f : MirrorField) (at' : Nat) (v : BitVec 32) :=
      f.addr = at' ∧ s.mirrorWords f = [v.extractLsb' 16 16, v.extractLsb' 0 16]
    let block := match x with | .focus => 0x0020 | .iris => 0x0028 | .zoom => 0x0030
    let r := s.axes.get x
    let item (i : AxisItem) (k n : Nat) := one (.axis x i) (block + k) n
    one .partState 0x0010 s.al.part.code ∧ one .profileState 0x0011 s.pl.st.code ∧
    two .profileSerial 0x0012 s.pl.mirrorSerial ∧ one .profileReason 0x0014 s.pl.reason.code ∧
    one .mount 0x0015 s.ms.mount.code ∧ one .warnCount 0x0016 s.rw.warnCount ∧
    one .nextSlot 0x0017 s.rw.nextSlot ∧ two .frameNo 0x0018 s.ft.frameNo ∧
    one .linkState 0x0038 s.lc.st.code ∧ one .markSeq 0x0039 s.lc.seq.toNat ∧
    item .state 0 r.st.code ∧ item .lastCompletion 1 r.lastCompletion.code ∧
    item .unitStatus 2 r.unitStatus.toNat ∧ item .lastNote 3 r.lastNote.code ∧
    item .misses 4 r.misses ∧ item .trackCount 5 r.track.length ∧
    two (.axis x .lastPosition) (block + 6) (BitVec.ofInt 32 r.lastPos.toInt)) ∧
  (∀ pl : ProfileLoader,
    (pl.st = .empty → pl.mirrorSerial = 0) ∧ (pl.st = .faulted → pl.mirrorSerial = pl.failedSerial) ∧
    (∀ l, pl.st = .loading → pl.load = some l → pl.mirrorSerial = l.serial) ∧
    (∀ l, pl.st = .ready ∨ pl.st = .unbound → pl.loaded = some l → pl.mirrorSerial = l.serial)) ∧
  [PartState.clearing, .halted, .armed, .running, .frameless].map PartState.code = List.range 5 ∧
  [ProfileState.empty, .loading, .ready, .unbound, .faulted].map ProfileState.code = List.range 5 ∧
  [FaultReason.none, .parity, .layout, .serial, .shape, .range, .check].map FaultReason.code =
    List.range 7 ∧
  [AxisState.idle, .fixed, .seeking, .qualifying, .live, .stale, .lost].map AxisState.code =
    List.range 7 ∧
  [Completion.none, .ok, .noReply, .checkFault, .framing, .bitFault, .lostArb, .broken,
    .skipped].map Completion.code = List.range 9 ∧
  [LinkState.off, .idle, .sending, .awaitReply, .receiving, .breakTx, .breakRx, .stuck].map
    LinkState.code = List.range 8 ∧
  [NoteCode.none, .endstop, .fault, .rezero].map NoteCode.code = List.range 4 ∧
  Mount.absent.code = 0 ∧ Mount.present.code = 1

/-- Reads of the look and the copy as they complete. SELECTOR: bad parity ends the look with PARITY, value 0
ends it, 1 and 2 go on to PAGE_SEQ, any other value forms the pair with 0. PAGE_SEQ forms the pair with the
selector, its parity failure kept for the copy. A pair that is the last examined one ends the look. A word of
the page joins the copy, or ends it at its offset when it fails parity. That the look takes SELECTOR as it
stands at the grant of its read, and not at the frame start before, is the model's choice (log 45). Each read is
presented at its address, with nothing to write before it: SELECTOR at word 0, PAGE_SEQ at the page's first
word, then the words after those copied. -/
def Obligations.SelectorReadAtTheLook : Prop :=
  (∀ (dt : Span) (s : State) (v : Stored) (n : BitVec 32), let u := s.elapse dt
    u.ma.inflight = some { who := .settingsReader, addr := 0, read := some v } →
    u.sr.awaiting = .selector → u.sr.exam = .readSelector n →
    let free := { u.ma with inflight := none }
    let sr := { u.sr with awaiting := .nothing }
    (v.good = false → ∃ t, exec (.memoryAccessComplete dt) s = .next t ∧
      Settled { u with
        ma := free, sr := { sr with exam := .none },
        al := ({ u.al with faultAddr := 0 } : Attention).raise .parity } t) ∧
    (v.good = true → v.data = 0 → ∃ t, exec (.memoryAccessComplete dt) s = .next t ∧
      Settled { u with ma := free, sr := { sr with exam := .none } } t) ∧
    (v.good = true → (v.data = 1 ∨ v.data = 2) → ∃ t, exec (.memoryAccessComplete dt) s = .next t ∧
      Settled { u with ma := free, sr := { sr with exam := .readSeq v.data n } } t) ∧
    (v.good = true → v.data ≠ 0 → v.data ≠ 1 → v.data ≠ 2 → u.sr.lastPair ≠ some (v.data, 0) →
      ∃ t, exec (.memoryAccessComplete dt) s = .next t ∧
      Settled { u with
        ma := free,
        sr := { sr with lastPair := some (v.data, 0), exam := .found v.data 0 false n } } t) ∧
    (v.good = true → v.data ≠ 0 → v.data ≠ 1 → v.data ≠ 2 → u.sr.lastPair = some (v.data, 0) →
      ∃ t, exec (.memoryAccessComplete dt) s = .next t ∧
      Settled { u with ma := free, sr := { sr with exam := .none } } t)) ∧
  (∀ (dt : Span) (s : State) (addr : Nat) (v : Stored), let u := s.elapse dt
    u.ma.inflight = some { who := .settingsReader, addr := addr, read := some v } →
    let e : State := { u with
      ma := { u.ma with inflight := none },
      al := if v.good then u.al else { u.al with faultAddr := BitVec.ofNat 15 addr },
      sr := { u.sr with awaiting := .nothing } }
    let done (x : Examination) (pair : Option (Word × Word)) : State :=
      State.settle { e with sr := { e.sr with exam := x, lastPair := pair } } u
    (∀ sel n, u.sr.awaiting = .pageSeq → u.sr.exam = .readSeq sel n →
      (u.sr.lastPair = some (sel, v.data) →
        exec (.memoryAccessComplete dt) s = .next (done .none u.sr.lastPair)) ∧
      (u.sr.lastPair ≠ some (sel, v.data) →
        exec (.memoryAccessComplete dt) s =
          .next (done (.found sel v.data (!v.good) n) (some (sel, v.data))))) ∧
    (∀ sel seq ws, u.sr.awaiting = .pageWord → u.sr.exam = .copying sel seq ws none →
      exec (.memoryAccessComplete dt) s = .next (done
        (if v.good then .copying sel seq (ws ++ [v.data]) none
          else .copying sel seq ws (some ws.length)) u.sr.lastPair))) ∧
  (∀ s : State, s.ma.free .settingsReader = true → s.ma.clearHold = false → s.sr.mirrorRest = none →
    s.sr.report = [] → s.sr.marks = [] →
    let reads (addr : Nat) (what : ReaderAwaits) : State := { s with
      ma := { s.ma with reqSr := some { addr := addr, write := none } },
      sr := { s.sr with awaiting := what } }
    (∀ n, s.sr.exam = .readSelector n → s.presentSr = reads 0x0000 .selector) ∧
    (∀ n, s.sr.exam = .readSeq 1 n → s.presentSr = reads 0x0100 .pageSeq) ∧
    (∀ n, s.sr.exam = .readSeq 2 n → s.presentSr = reads 0x0300 .pageSeq) ∧
    (∀ seq ws, ws.length < 512 →
      (s.sr.exam = .copying 1 seq ws none → s.presentSr = reads (0x0100 + ws.length) .pageWord) ∧
      (s.sr.exam = .copying 2 seq ws none → s.presentSr = reads (0x0300 + ws.length) .pageWord)) ∧
    (∀ sel seq ws k, s.sr.exam = .copying sel seq ws k → (512 ≤ ws.length ∨ k ≠ none) →
      s.presentSr = s) ∧
    (∀ sel seq bad n, s.sr.exam = .none ∨ s.sr.exam = .found sel seq bad n → s.presentSr = s))

/-- The Record Writer takes up a begin notice: slot 0 with the ring-reset mark, the next slot otherwise, at
RING_BASE + s (16 + 16 B); with the arbiter idle its STATE word is read at once. The STATE word has been read:
anything but FREE with good parity is an overwrite with OVERRUN, a parity failure also raises PARITY. A
consumer's FREE that waits is granted now, after the read and before the header. SLOT_OPEN then opens the slot
judged: the header's words are to be written, STATE OPEN first, and the empty tags after them. That the read is
granted in the same step is the model's choice (log 6). That the judged slot takes a second SLOT_OPEN, with the
header's states sampled at it, and that a request pending at the judgement is granted before it, is the model's
choice (log 12). -/
def Obligations.SlotOpenNamesJudgesAndWrites : Prop :=
  (∀ (dt : Span) (s : State) (n : BeginNotice) (rest : List WorkItem), let u := s.elapse dt
      u.rw.work = .none → u.rw.queue = .opens n :: rest →
      let i := if n.ringReset then 0 else u.rw.nextSlot
      let base := n.ringBase + i * (16 + 16 * n.bands)
      ∃ t, exec (.slotOpen dt) s = .next t ∧
        Settled { u with rw := { u.rw with
          nextSlot := i, queue := rest, work := .judging n i base false } } t ∧
        (u.ma = { Arbiter.reset with clearHold := false, portHold := false } →
          t.ma.inflight = some { who := .recordWriter, addr := base,
                                 read := some (memFetch u.mem u.clk.tb base) })) ∧
  (∀ (dt : Span) (s : State) (n : BeginNotice) (index base : Nat) (v : Stored), let u := s.elapse dt
    u.ma.inflight = some { who := .recordWriter, addr := base, read := some v } →
    u.rw.work = .judging n index base true →
    let taken := !v.good || v.data != 0
    let e : State := { u with
      ma := { u.ma with inflight := none },
      al := ((if v.good then u.al else { u.al with faultAddr := BitVec.ofNat 15 base }).raiseWhen
        taken .overrun).raiseWhen (!v.good) .parity,
      rw := { u.rw with work := .judged n index base taken } }
    exec (.memoryAccessComplete dt) s = .next (e.settle u) ∧
    (e.settle u).rw = { u.rw with work := .judged n index base taken } ∧
    (∀ k w, u.ma.reqPort = some { addr := k, write := some w } → u.ma.clearHold = false →
      u.ma.portHold = false → u.ma.reqRw = none →
      (e.settle u).mem = memWrite u.mem k w ∧
      (e.settle u).ma.inflight = some { who := .systemPort, addr := k, read := none })) ∧
  (∀ (dt : Span) (s : State) (n : BeginNotice) (index base : Nat) (taken : Bool), let u := s.elapse dt
    u.rw.work = .judged n index base taken →
    let noProfile := u.pl.st != .ready
    let noLens := u.ms.mount == .absent
    let serial : Word := match u.pl.loaded with
      | some l => l.serial.extractLsb' 0 16
      | none => 0
    let axis (r : AxisRec) : Word := BitVec.ofNat 8 r.st.code ++ r.unitStatus
    let header : List Word :=
      [1, n.number.extractLsb' 16 16, n.number.extractLsb' 0 16, n.t0.extractLsb' 16 16,
       n.t0.extractLsb' 0 16, bitsWord [false, false, false, taken, noProfile, noLens],
       BitVec.ofNat 16 n.bands, 0, n.seq, serial, axis u.axes.focus, axis u.axes.iris,
       axis u.axes.zoom, 0, 0, 0]
    let words := header.mapIdx (fun i w => (base + i, w)) ++
      (List.range n.bands).map (fun b => (base + 16 + 16 * b, (0x00FF : Word)))
    exec (.slotOpen dt) s = .next (State.settle { u with rw := { u.rw with
      work := .opening words,
      openSlot := some
        { index := index, base := base, ringBase := n.ringBase, ringSlots := n.ringSlots,
          frameNo := n.number, t0 := n.t0, planned := n.bands, written := 0, overwrote := taken,
          noProfile := noProfile, noLens := noLens, degraded := false } } } u))

/-! ## Frames -/

/-- A recognised frame start with settings in force and no pending copy begins a frame, as `FrameBegins` in
Safety.lean says: T0 is taken, the part is RUNNING, an OPEN frame is cut, the next frame begins with its table
and number, the watchdog restarts, the bands whose release time is not after T0 are raised at once and the look
begins. The axes, the link, the mount, the profile and the settings stand, and no cause is raised but FRAME
where the step's own grant closes a slot. FRAME counts afresh from the edge. An edge is recognised with FRAME
high for 1 µs, or less for a short pulse that is taken, all of it after the edge taken before: the form is the
model's choice (log 21); the held values are captured with the snapshot: its reading (log 11). -/
def Obligations.FrameStartBeginsAFrame : Prop :=
  ∀ (dt : Span) (h : Time) (s : State) (a : Adopted), let u := s.elapse dt
    u.clk.resetn = true → (u.al.part = .armed ∨ u.al.part = .running ∨ u.al.part = .frameless) →
    h.toNat ≤ 1 → h.toNat ≤ u.fi.since → u.sr.pendingCopy = none → u.sr.inForce = some a →
    ∃ t, exec (.frameStart dt h) s = .next t ∧
      FrameBegins u u a h (u.al.part == .armed) t ∧
      t.axes = u.axes ∧ t.lc = u.lc ∧ t.ms = u.ms ∧ t.sr.inForce = u.sr.inForce ∧
      t.pl = { u.pl with awaiting := t.pl.awaiting } ∧ t.be.held = u.be.held ∧
      t.fi = { since := 0 } ∧
      SettledRecords { u with al := { u.al with part := .running }, rw := { u.rw with queue := t.rw.queue } } t

/-- A pending copy comes in force at a frame start: it becomes the settings in force, the rate before is
recorded, ADOPT is raised, and a frame begins under it as `FrameBegins` in Safety.lean says: T0, number and
table, the watchdog with the new FRAME_TIMEOUT, RUNNING, the look, and the bands already due, taken with the
profile state that the decision leaves (R77). The report ADOPTED_PAGE, ADOPTED_SEQ, REPORT_FRAME, IN_FORCE joins
the words to be written, the oldest of which is presented by a reader that is free and owes no second word. The
frame's begin notice carries the new ring, with the ring-reset mark from ARMED and when RING_BASE or RING_SLOTS
differs from the value before (or there was none: log 23). Each axis that changed its mode, or its unit in
TRACK, is reset, any other has the new thresholds applied; the Profile Loader takes its decision. A changed rate
sends a break from an active link, lengthens the break being driven, and is owed in BREAK_RX and STUCK; R30 then
acts on every TRACK axis as the break begins or goes on. AXIS is raised once when any axis enters or leaves
LOST: by the change of its mode or unit, by the new thresholds, or by R30. No other cause is raised but what the
Profile Loader's decision raises, and FRAME where the step's own grant closes a slot. An unchanged rate starts a
STOPPED timer of an active link. The 40 bit times are counted from the event's time, and the axes are acted on
again by a break that goes on: the model's choices (log 21, 28); the held values are captured with the snapshot:
its reading (log 11). -/
def Obligations.FrameStartBringsSettingsInForce : Prop :=
  (∀ (dt : Span) (h : Time) (s : State) (a : Adopted), let u := s.elapse dt
    u.clk.resetn = true → (u.al.part = .armed ∨ u.al.part = .running ∨ u.al.part = .frameless) →
    h.toNat ≤ 1 → h.toNat ≤ u.fi.since → u.sr.pendingCopy = some a →
    let active := u.lc.st = .idle ∨ u.lc.st = .sending ∨ u.lc.st = .awaitReply ∨ u.lc.st = .receiving
    let begins := active ∨ (u.lc.st = .breakTx ∧ u.lc.breakEnd = none)
    let adopted (x : Axis) := (u.axes.get x).adopt (u.mode x) (u.unit x) (a.settings.axis x)
    let restarts := a.settings.linkRate ≠ u.rate ∧ (active ∨ u.lc.st = .breakTx)
    let crosses := ∃ x, ¬ ((u.axes.get x).st = .lost ↔ (adopted x).st = .lost) ∨
      (restarts ∧ (a.settings.axis x).mode = .track ∧ (adopted x).st = .lost)
    let breakEnd := u.clk.tb + micros (40 * a.settings.linkRate.tau)
    let number := u.ft.frameNo + 1
    let report := u.sr.report ++ [(0x000E, a.page), (0x000F, a.seq),
      (0x000C, number.extractLsb' 16 16), (0x000D, number.extractLsb' 0 16), (0x0008, 3)]
    let presents := u.ma.free .settingsReader = true ∧ u.ma.clearHold = false ∧ u.sr.mirrorRest = none
    let newRing := match u.sr.inForce with
      | some o => decide (o.settings.ringBase ≠ a.settings.ringBase ∨
          o.settings.ringSlots ≠ a.settings.ringSlots)
      | none => true
    let served := u.profileAdopts a.settings
    let raised := ({ served.al with part := .running } : Attention).raise .adopt
    let ends (al : Attention) (queue : List WorkItem) : State :=
      { u with al := al, rw := { u.rw with queue := queue } }
    ∃ t, exec (.frameStart dt h) s = .next t ∧
      FrameBegins u served a h (u.al.part == .armed || newRing) t ∧ t.be.held = served.be.held ∧
      t.ms = u.ms ∧ t.fi = { since := 0 } ∧
      (¬ presents → t.sr.report = report) ∧
      (presents → t.sr.report = report.tail ∧ ∃ w, report.head? = some w ∧
        (t.ma.reqSr = some { addr := w.1, write := some w.2 } ∨
          (t.ma.inflight = some { who := .settingsReader, addr := w.1, read := none } ∧
            t.mem = memWrite u.mem w.1 w.2))) ∧
      t.sr.inForce = some a ∧ t.sr.pendingCopy = none ∧ t.sr.prevRate = u.rate ∧
      (crosses → SettledRecords (ends (raised.raise .axis) t.rw.queue) t) ∧
      (¬ crosses → SettledRecords (ends raised t.rw.queue) t) ∧
      t.pl = { served.pl with awaiting := t.pl.awaiting } ∧
      (a.settings.linkRate = u.rate →
        (∀ x, t.axes.get x = adopted x) ∧
        t.lc = { u.lc with tick := t.lc.tick } ∧
        (active → u.lc.tick = none → t.lc.tick = some (u.clk.tb + micros a.settings.markPeriod)) ∧
        (u.lc.tick ≠ none → t.lc.tick = u.lc.tick)) ∧
      (a.settings.linkRate ≠ u.rate →
        (begins → t.lc.st = .breakTx ∧ t.lc.tick = none ∧ t.lc.trans = none ∧ t.lc.waiting = none ∧
          t.lc.breakEnd = some breakEnd) ∧
        (u.lc.st = .breakTx → u.lc.breakEnd ≠ none → t.lc = { u.lc with breakEnd := some breakEnd }) ∧
        (active ∨ u.lc.st = .breakTx → ∀ x,
          ((a.settings.axis x).mode = .track → (t.axes.get x).st = .seeking ∧
            (t.axes.get x).track = [] ∧ (t.axes.get x).misses = 0 ∧ (t.axes.get x).good = 0 ∧
            (t.axes.get x).blanking = .pending a.settings.blankTime) ∧
          ((a.settings.axis x).mode ≠ .track → t.axes.get x = adopted x)) ∧
        (u.lc.st = .breakRx ∨ u.lc.st = .stuck →
          t.lc = { u.lc with owed := true } ∧ ∀ x, t.axes.get x = adopted x))) ∧
  (∀ (r : AxisRec) (mode : AxisMode) (unit : Nat) (new : AxisSettings),
    ((new.mode ≠ mode ∨ (new.mode = .track ∧ new.unit ≠ unit)) →
      r.adopt mode unit new =
        { st := match new.mode with
            | .off => .idle
            | .track => .seeking
            | .fixed => .fixed,
          track := [], misses := 0, good := 0, blanking := .notBlanking, unitStatus := 0,
          lastCompletion := .none, lastNote := .none, lastPos := 0 }) ∧
    (new.mode = mode → (new.mode ≠ .track ∨ new.unit = unit) →
      let st := if r.st = .qualifying ∧ new.qualify ≤ r.good then .live else r.st
      r.adopt mode unit new = { r with
        st :=
          if (st = .seeking ∨ st = .qualifying ∨ st = .live ∨ st = .stale) ∧
              new.lostMisses ≤ r.misses then .lost
          else if st = .live ∧ new.staleMisses ≤ r.misses then .stale else st }))

/-- In CLEARING and HALTED an edge on FRAME changes only the time, and so does an edge that is not recognised:
one said to have been high for more than the 1 µs at which it is recognised, or for longer than since the edge
taken before. In ARMED with no settings in force and none pending a recognised edge takes T0 and begins the
look, and no frame begins. FRAME's count is of the microseconds that pass with RESETn high. That an ignored edge
lets the elapsed time pass is the model's choice (log 3), and so is the form of the recognition (log 21). -/
def Obligations.FrameStartsThatBeginNoFrame : Prop :=
  (∀ (dt : Span) (h : Time) (s : State), let u := s.elapse dt
    (u.al.part = .clearing ∨ u.al.part = .halted → exec (.frameStart dt h) s = .next u) ∧
    (1 < h.toNat ∨ u.fi.since < h.toNat → exec (.frameStart dt h) s = .next u) ∧
    (u.clk.resetn = true → u.al.part = .armed → h.toNat ≤ 1 → h.toNat ≤ u.fi.since →
      u.sr.pendingCopy = none → u.sr.inForce = none → u.sr.exam = .none →
      ∃ t, exec (.frameStart dt h) s = .next t ∧
        Settled { u with ft := { u.ft with t0 := u.clk.tb - h }, fi := { since := 0 },
                         sr := { u.sr with exam := .readSelector u.ft.frameNo } } t)) ∧
  (∀ (s : State) (d : Time),
    (s.pass d).fi.since = if s.clk.resetn then s.fi.since + d.toNat else s.fi.since)

/-- The cut of an OPEN frame: CUTTING while the engine holds one of its bands, ENDED otherwise with its CUT end
notice sent, or held behind a frame that is CUTTING. A frame that is not OPEN is not cut. -/
def Obligations.CuttingAFrame : Prop :=
  ∀ s : State,
    ((∀ f, s.ft.current = some f → f.condition ≠ .opened) → s.cutFrame = s) ∧
    (∀ f, s.ft.current = some f → f.condition = .opened → s.be.engine.holds f.number = true →
      s.cutFrame = { s with ft := { s.ft with
        current := some { f with condition := .cutting }, released := [],
        cutting := some f.number } }) ∧
    (∀ f, s.ft.current = some f → f.condition = .opened → s.be.engine.holds f.number = false →
      s.ft.cutting = none →
      s.cutFrame = { s with
        ft := { s.ft with current := some { f with condition := .ended }, released := [] },
        rw := { s.rw with queue := s.rw.queue ++ [.ends f.number true] } }) ∧
    (∀ f, s.ft.current = some f → f.condition = .opened → s.be.engine.holds f.number = false →
      s.ft.cutting ≠ none →
      s.cutFrame = { s with ft := { s.ft with
        current := some { f with condition := .ended }, released := [],
        heldNotices := s.ft.heldNotices ++ [.ends f.number true] } })

/-- The rows of band b: first floor(b R / B), last floor((b+1) R / B) − 1, centre the lower middle one; the
first rows rise, and the last band ends at row R − 1. -/
def Obligations.BandRows : Prop :=
  ∀ (g : Geometry) (t0 : Time) (b : Nat), 1 ≤ g.bands → g.bands ≤ g.rows → b < g.bands →
    (bandTiming g t0 b).first = b * g.rows / g.bands ∧
    (bandTiming g t0 b).last = (b + 1) * g.rows / g.bands - 1 ∧
    (bandTiming g t0 b).centre = ((bandTiming g t0 b).first + (bandTiming g t0 b).last) / 2 ∧
    (bandTiming g t0 b).first < (b + 1) * g.rows / g.bands ∧
    (bandTiming g t0 (g.bands - 1)).last = g.rows - 1

/-- The readout time of row r is T0 + D + floor(r lt / 256); every band's deadline, window and release time are
formed from it with wrap. In a legal geometry they rise strictly from band to band, and the latest readout is at
most 2,162,399 µs after T0. -/
def Obligations.BandTimesRise : Prop :=
  ∀ (c : Settings) (t0 : Time) (b : Nat), c.legal → b < c.bands →
    let readout (row : Nat) : Time := t0 + BitVec.ofNat 32 (c.readoutOffset + row * c.lineTime / 256)
    let x := bandTiming c.geometry t0 b
    x.deadline = readout x.first ∧ x.te = readout x.centre ∧
    x.ts = x.te - BitVec.ofNat 32 c.exposure ∧ x.release = x.deadline - BitVec.ofNat 32 c.releaseLead ∧
    (∀ b', b < b' → b' < c.bands → let y := bandTiming c.geometry t0 b'
      later y.deadline x.deadline = true ∧ later y.te x.te = true ∧ later y.release x.release = true) ∧
    (∀ r r' : Nat, r < r' → r' < c.rows → later (readout r') (readout r) = true) ∧
    (∀ r, r < c.rows → c.readoutOffset + r * c.lineTime / 256 ≤ 2162399)

/-- The next band of the OPEN frame is raised once its release time is reached: an IDLE engine takes it with its
snapshot, a busy one leaves it in the release list; before that only the time changes. The held values are
captured with the snapshot: the model's reading (log 11). A command that is not due changes only the time: the
model's choice (log 3). -/
def Obligations.BandReleaseRaisesTheNextBand : Prop :=
  ∀ (dt : Span) (s : State) (f : Frame) (b : BandTiming), let u := s.elapse dt
    u.ft.current = some f → f.condition = .opened → f.table[u.ft.nextRelease]? = some b →
    (reached u.clk.tb b.release = true → u.be.engine = .idle →
      ∃ t, exec (.bandRelease dt) s = .next t ∧
        Settled { u with
          ft := { u.ft with nextRelease := u.ft.nextRelease + 1 },
          be := { u.be with
            engine := .computing
              { frameNo := f.number, band := u.ft.nextRelease, deadline := b.deadline, ts := b.ts,
                te := b.te, stale := false,
                snapshot := { axes := u.axes, profile := u.pl.st, store := u.pl.store,
                              mount := u.ms.mount, settings := f.settings, held := u.be.held } } } } t) ∧
    (reached u.clk.tb b.release = true → u.be.engine ≠ .idle →
      ∃ t, exec (.bandRelease dt) s = .next t ∧
        Settled { u with ft := { u.ft with
          nextRelease := u.ft.nextRelease + 1,
          released := u.ft.released ++ [u.ft.nextRelease] } } t) ∧
    (reached u.clk.tb b.release = false → exec (.bandRelease dt) s = .next u)

/-- The end of a computation hands the record over; a load waiting in FINISHING ends with it: READY with the
mount PRESENT and no detach mark, its band then marked so that it refills no held value, and UNBOUND without,
the held values kept. -/
def Obligations.BandComputeEndHandsOver : Prop :=
  ∀ (dt : Span) (s : State) (b : InFlight), let u := s.elapse dt
    u.be.engine = .computing b →
    let r := computeBand b.snapshot b.ts b.te
    let rw := { u.rw with queue := u.rw.queue ++
      [.record { frameNo := b.frameNo, band := b.band, deadline := b.deadline, result := r }] }
    ((∀ l, u.pl.load = some l → l.phase ≠ .finishing) →
      ∃ t, exec (.bandComputeEnd dt) s = .next t ∧
        Settled { u with be := { u.be with engine := .handingOver b r }, rw := rw } t) ∧
    (∀ l, u.pl.load = some l → l.phase = .finishing →
      let finished := { u.pl with
        store := l.words, load := none, awaiting := false,
        loaded := some { base := l.base, serial := profSerial l.words, extent := profLength l.words } }
      (u.ms.mount = .present → l.detached = false →
        ∃ t, exec (.bandComputeEnd dt) s = .next t ∧
          Settled { u with
            be := { engine := .handingOver ({ b with stale := true } : InFlight) r,
                    held := { pos := none, u := none, a := none, z := none } },
            rw := rw, al := u.al.raise .profile, ma := { u.ma with reqPl := none },
            pl := { finished with st := .ready } } t) ∧
      (u.ms.mount = .absent ∨ l.detached = true →
        ∃ t, exec (.bandComputeEnd dt) s = .next t ∧
          Settled { u with
            be := { u.be with engine := .handingOver b r },
            rw := rw, al := u.al.raise .profile, ma := { u.ma with reqPl := none },
            pl := { finished with st := .unbound } } t))

/-- The watchdog expires in RUNNING once its time is reached: FRAMELESS, FRAMELOSS, the watchdog STOPPED, an
OPEN frame cut; before that, or in another state, only the time changes. A command that is not due changes only
the time: the model's choice (log 3). -/
def Obligations.WatchdogExpiryLosesTheFrame : Prop :=
  ∀ (dt : Span) (s : State) (w : Time), let u := s.elapse dt
    u.ft.watchdog = some w →
    (u.al.part = .running → reached u.clk.tb w = true →
      ∃ t, exec (.frameWatchdogExpiry dt) s = .next t ∧
        Settled ({ u with
          al := ({ u.al with part := .frameless } : Attention).raise .frameloss,
          ft := { u.ft with watchdog := none } } : State).cutFrame t) ∧
    (u.al.part ≠ .running ∨ reached u.clk.tb w = false →
      exec (.frameWatchdogExpiry dt) s = .next u)

/-! ## Records and slots -/

/-- A record taken up: LATE when the timebase is later than its deadline; fifteen words from FLAGS on in the
order of the layout, then its TAG, at the slot's base + 16 + 16 b. An end notice taken up: DEGRADED when a
record was or the frame is cut, the stretch count N+1 or one less, WARN by count and part state; FLAGS,
BANDS_DONE and STATE CLOSED go out in order. Each is given as the state in which the step ends. -/
def Obligations.RecordsAndClosesAreWritten : Prop :=
  (∀ (dt : Span) (s : State) (r : RecordItem) (rest : List WorkItem) (o : OpenSlot), let u := s.elapse dt
    u.rw.work = .none → u.rw.queue = .record r :: rest → u.rw.openSlot = some o →
    let late := decide (0 < (u.clk.tb - r.deadline).toInt)
    let f := r.result.flags
    let r' := { r with result := { r.result with flags := { f with late := late } } }
    let at' := o.base + 16 + 16 * r.band
    let long (i : Int) : List Word :=
      [(BitVec.ofInt 32 i).extractLsb' 16 16, (BitVec.ofInt 32 i).extractLsb' 0 16]
    let values : List Word :=
      long r.result.pMean ++ [r.result.u, r.result.z, r.result.a].map (BitVec.ofNat 16) ++
      long r.result.sx ++ long r.result.sy ++
      [r.result.shx, r.result.shy, r.result.k1, r.result.k2, r.result.k3].map (BitVec.ofInt 16)
    let word := bitsWord [f.extrapolated, f.limited, f.early, f.held, f.fixed, f.mapEdge, f.auxHeld,
      f.scaleLimit, f.shiftLimit, f.gainLimit, f.identity, f.degraded, late]
    let words := (word :: values).mapIdx (fun i w => (at' + 1 + i, w)) ++
      [(at', r.frameNo.extractLsb' 0 8 ++ BitVec.ofNat 8 r.band)]
    exec (.bandRecordWrite dt) s = .next
      (State.settle { u with rw := { u.rw with queue := rest, work := .recording words r' } } u)) ∧
  (∀ (dt : Span) (s : State) (number : BitVec 32) (cut : Bool) (rest : List WorkItem) (o : OpenSlot),
    let u := s.elapse dt
    u.rw.work = .none → u.rw.queue = .ends number cut :: rest → u.rw.openSlot = some o →
    let stretch := match u.sr.inForce with
      | some a => a.settings.warnStretch
      | none => 0
    let degraded := o.degraded || cut
    let count := if degraded then stretch + 1 else u.rw.warnCount - 1
    let warn := decide (0 < count) && u.al.part.live
    let flags := bitsWord [degraded, warn, cut, o.overwrote, o.noProfile || u.pl.st != .ready,
      o.noLens || u.ms.mount == .absent]
    exec (.slotClose dt) s = .next
      (State.settle { u with rw := { u.rw with
        queue := rest, warnCount := count, warnOut := warn,
        work := .closing [(o.base + 5, flags), (o.base + 7, BitVec.ofNat 16 o.written),
                          (o.base, 2)] } } u))

/-- The record's TAG has been granted: the slot counts the record and gathers its flags, the engine keeps the
values the band used and is IDLE, or takes the oldest band waiting, with its snapshot; band B−1 ends its OPEN
frame COMPLETE. The last record of a CUTTING frame sends its CUT end notice and then the held notices, and a
band of the next frame that waits is taken. The record written may be LATE, which the engine's own result never
is. That this is a step of its own after the grant of the TAG is the model's choice (log 13); the held values
are captured with the snapshot: its reading (log 11). -/
def Obligations.RecordWrittenReturnsTheEngine : Prop :=
  ∀ (dt : Span) (s : State) (r : RecordItem) (b : InFlight) (x : BandResult) (o : OpenSlot) (f : Frame),
    let u := s.elapse dt
    u.rw.work = .recorded r → u.rw.openSlot = some o → u.be.engine = .handingOver b x →
    u.ft.current = some f →
    let old := u.be.held
    let held : Held := if b.stale then old else
      { pos := match x.focusUsed with | some (p, _) => some p | none => old.pos,
        u := match x.focusUsed with | some (_, c) => some c | none => old.u,
        a := match x.irisUsed with | some c => some c | none => old.a,
        z := match x.zoomUsed with | some c => some c | none => old.z }
    let taken (next : Nat) (row : BandTiming) : InFlight :=
      { frameNo := f.number, band := next, deadline := row.deadline, ts := row.ts, te := row.te,
        stale := false,
        snapshot := { axes := u.axes, profile := u.pl.st, store := u.pl.store, mount := u.ms.mount,
                      settings := f.settings, held := held } }
    let slot := { o with
      written := o.written + 1, degraded := o.degraded || r.result.flags.degraded,
      noProfile := o.noProfile || r.result.flags.identity }
    let ends (ft : FrameTimer) (notices : List WorkItem) :=
      let rw := { u.rw with
        work := .none, openSlot := some slot, queue := u.rw.queue ++ notices }
      (u.ft.released = [] →
        ∃ t, exec (.recordWritten dt) s = .next t ∧
          Settled { u with be := { engine := .idle, held := held }, ft := ft, rw := rw } t) ∧
      (∀ next rest row, u.ft.released = next :: rest → f.table[next]? = some row →
        ∃ t, exec (.recordWritten dt) s = .next t ∧
          Settled { u with
            be := { engine := .computing (taken next row), held := held },
            ft := { ft with released := rest }, rw := rw } t)
    (f.number = r.frameNo → f.condition = .opened → u.ft.cutting = none →
      (r.band + 1 = f.geom.bands → u.ft.released = [] →
        ends { u.ft with current := some { f with condition := .ended } } [.ends f.number false]) ∧
      (r.band + 1 ≠ f.geom.bands → ends u.ft [])) ∧
    (u.ft.cutting = some r.frameNo →
      ends
        { u.ft with
          current := some (if f.number = r.frameNo then { f with condition := .ended } else f),
          heldNotices := [], cutting := none }
        (.ends r.frameNo true :: u.ft.heldNotices))

/-- The last grants of the Record Writer's work, here at the completion of its access before. STATE CLOSED: the
slot closes, with no open slot, the index one on modulo the slot's RING_SLOTS and FRAME raised. The TAG of a
record: it is recorded, for the engine to hear of. The last empty tag of an open: it has been handled, and the
slot stays open. The word is written in each. That the bookkeeping falls at these grants, inside the step, is
the model's choice (log 13). -/
def Obligations.LastGrantsEndTheRecordWritersWork : Prop :=
  ∀ (dt : Span) (s : State) (addr base : Nat) (w : Word), let u := s.elapse dt
    u.ma.inflight = some { who := .recordWriter, addr := addr, read := none } →
    u.ma.clearHold = false → u.ma.reqRw = none →
    let ends (rw : RecordWriter) (al : Attention) :=
      ∃ t, exec (.memoryAccessComplete dt) s = .next t ∧
        t.rw = rw ∧ t.al = al ∧ t.mem = memWrite u.mem base w ∧
        t.ma.inflight = some { who := .recordWriter, addr := base, read := none } ∧
        t.ft = u.ft ∧ t.be = u.be ∧ t.axes = u.axes ∧ t.lc = u.lc ∧ t.ms = u.ms
    (∀ o, u.rw.work = .closing [(base, w)] → u.rw.openSlot = some o →
      ends { u.rw with work := .none, openSlot := none, nextSlot := (o.index + 1) % o.ringSlots }
        (u.al.raise .frame)) ∧
    (∀ r, u.rw.work = .recording [(base, w)] r → ends { u.rw with work := .recorded r } u.al) ∧
    (u.rw.work = .opening [(base, w)] → ends { u.rw with work := .none } u.al)

/-! ## Settings -/

/-- A new request: the report reads EXAMINING, and for selector 1 or 2 the copy starts from PAGE_SEQ, ended at
offset 0 if that word failed parity; any other selector is refused SELECTOR with its value. The copy is over: a
parity failure is refused PARITY at its offset, a whole page that fails a check is refused with that check's
code and detail, and one that passes all becomes the pending copy. Each is given as the state in which the step
ends. The checks go in the order CHECK, RANGE, LAYOUT, MAP, ADDRESS, SCHEDULE, PERIOD, each with its detail, and
a page passes exactly when it passes each of them; the fields stand at the offsets of R175 and have the numbers
and legal values of R129 and R130. The refusal of a bad selector in its step, and that REFUSE is raised as the
report words are queued, are the model's choices (log 14). -/
def Obligations.ExaminationReportsRefusesAndAccepts : Prop :=
  (∀ (dt : Span) (s : State) (sel seq : Word), let u := s.elapse dt
    let ends (report : List WordWrite) (x : Examination) : State :=
      { u with sr := { u.sr with report := u.sr.report ++ report, exam := x } }
    let refused (report : List WordWrite) : State :=
      State.settle { ends report .none with al := u.al.raise .refuse } u
    (∀ bad n, u.sr.exam = .found sel seq bad n →
      let report : List WordWrite :=
        [(0x000A, sel), (0x000B, seq), (0x000C, n.extractLsb' 16 16), (0x000D, n.extractLsb' 0 16),
         (0x0009, 0), (0x0008, 1)]
      ((sel = 1 ∨ sel = 2) → exec (.examinationBegin dt) s = .next
        ((ends report (.copying sel seq [seq] (if bad then some 0 else none))).settle u)) ∧
      (sel ≠ 1 → sel ≠ 2 → exec (.examinationBegin dt) s =
        .next (refused (report ++ [(0x0009, sel), (0x0008, 17)])))) ∧
    (∀ ws k, u.sr.exam = .copying sel seq ws (some k) →
      exec (.pageCopyDone dt) s = .next (refused [(0x0009, BitVec.ofNat 16 k), (0x0008, 16)])) ∧
    (∀ ws r, u.sr.exam = .copying sel seq ws none → ws.length = 512 →
      pageRefusal ws u.pl.heldExtent = some r →
      exec (.pageCopyDone dt) s =
        .next (refused [(0x0009, BitVec.ofNat 16 r.detail), (0x0008, BitVec.ofNat 16 r.code)])) ∧
    (∀ ws, u.sr.exam = .copying sel seq ws none → ws.length = 512 →
      pageRefusal ws u.pl.heldExtent = none →
      exec (.pageCopyDone dt) s = .next (State.settle { u with sr := { u.sr with
        report := u.sr.report ++ [(0x0008, 2)], exam := .none,
        pendingCopy := some { page := sel, seq := seq, settings := pageSettings ws } } } u))) ∧
  (∀ (p : List Word) (extent : Option (Nat × Nat)),
    let sum := (p.map BitVec.toNat).sum % 65536
    let word (i : Nat) : Nat := (p.getD i 0).toNat
    let long (i : Nat) : Nat := word i * 65536 + word (i + 1)
    let block (x : Axis) : Nat := match x with | .focus => 41 | .iris => 100 | .zoom => 135
    let first (x : Axis) : Nat := match x with | .focus => 31 | .iris => 40 | .zoom => 49
    let room (x : Axis) : Nat := match x with | .focus => 17 | .iris => 9 | .zoom => 9
    let points (x : Axis) : List (Int × Nat) :=
      (List.range (min (word (block x + 7)) (room x))).map (fun k =>
        ((BitVec.ofNat 32 (long (block x + 8 + 3 * k))).toInt, word (block x + 10 + 3 * k)))
    let axis (x : Axis) : AxisSettings :=
      { mode := match word (block x) with | 1 => .track | 2 => .fixed | _ => .off,
        unit := word (block x + 1), fixedCoord := word (block x + 2), qualify := word (block x + 3),
        staleMisses := word (block x + 4), lostMisses := word (block x + 5),
        average := word (block x + 6), points := points x }
    let c : Settings :=
      { rows := word 2, bands := word 3, lineTime := word 4, readoutOffset := word 5,
        exposure := long 6, releaseLead := word 8, frameTimeout := long 9, ringBase := word 11,
        ringSlots := word 12, profileBase := word 13, profileSerial := BitVec.ofNat 32 (long 14),
        profileReload := word 16 == 1, breathingOn := word 17 == 1, shadingOn := word 18 == 1,
        lockCoord := word 19, headroom := word 20, scaleMax := long 21, shiftMax := word 23,
        shadingStrength := word 24, gainMax := word 25, extrapLimit := word 26,
        warnStretch := word 27, mountPeriod := word 28,
        linkRate := match word 29 with | 1 => .fast | _ => .slow,
        markPeriod := word 30, linkLatency := word 31, blankTime := word 32,
        schedule := [33, 34, 35, 36, 37, 38, 39, 40].map (fun i => match word i with
          | 1 => some .focus | 2 => some .iris | 3 => some .zoom | _ => none),
        focus := axis .focus, iris := axis .iris, zoom := axis .zoom }
    let from' (lo hi v : Nat) : Prop := lo ≤ v ∧ v ≤ hi
    let track (x : Axis) : Prop := word (block x) = 1
    let own (x : Axis) : List (Nat × Prop) :=
      [(0, word (block x) ≤ 2), (1, track x → from' 1 4 (word (block x + 1))),
       (3, from' 1 16 (word (block x + 3))), (4, from' 1 255 (word (block x + 4))),
       (5, from' (word (block x + 4)) 255 (word (block x + 5))),
       (6, word (block x + 6) ∈ if x = .focus then [1] else [1, 2, 4, 8]),
       (7, track x → from' 2 (room x) (word (block x + 7))),
       (8, track x → ∀ q ∈ points x, -8388608 ≤ q.1 ∧ q.1 ≤ 8388607)]
    let fields : List (Nat × Prop) :=
      [(3, from' 16 8192 (word 2)), (4, from' 1 32 (word 3) ∧ word 3 ≤ word 2),
       (5, from' 256 65535 (word 4)), (7, from' 1 1000000 (long 6)), (8, word 8 ≤ 10000),
       (9, from' 1000 2000000 (long 9)), (11, from' 2 16 (word 12)), (14, word 16 ≤ 1),
       (15, word 17 ≤ 1), (16, word 18 ≤ 1), (18, from' 16384 24576 (word 20)),
       (19, from' 4194304 8388608 (long 21)), (20, word 23 ≤ 32767), (21, word 24 ≤ 256),
       (22, from' 4096 32767 (word 25)), (23, word 26 ≤ 20000), (24, word 27 ≤ 255),
       (25, word 28 ∈ [1, 2, 4, 8]), (26, word 29 ≤ 1), (27, from' 100 5000 (word 30)),
       (28, word 31 ≤ 255), (29, word 32 ≤ 1000), (30, ∀ i, 33 ≤ i → i ≤ 40 → word i ≤ 3)] ++
      [.focus, .iris, .zoom].flatMap (fun x => (own x).map (fun f => (first x + f.1, f.2)))
    let legal : Prop := ∀ f ∈ fields, f.2
    let size := c.ringSlots * (16 + 16 * c.bands)
    let ringLies := 0x0500 ≤ c.ringBase ∧ c.ringBase + size ≤ 32768
    let baseLies := 0x0500 ≤ c.profileBase ∧ c.profileBase < 32768
    let baseApart := c.profileBase < c.ringBase ∨ c.ringBase + size ≤ c.profileBase
    let extentApart := ∀ base n, extent = some (base, n) →
      base + n ≤ c.ringBase ∨ c.ringBase + size ≤ base
    let layout := ringLies ∧ baseLies ∧ baseApart ∧ extentApart
    let inOrder (x : Axis) := (c.axis x).mode = .track →
      (((points x).map Prod.fst).Pairwise (· < ·) ∨ ((points x).map Prod.fst).Pairwise (· > ·)) ∧
        ((points x).map Prod.snd).Pairwise (· ≤ ·)
    let apart (x y : Axis) := (c.axis x).mode = .track → (c.axis y).mode = .track →
      (c.axis x).unit ≠ (c.axis y).unit
    let units := apart .focus .iris ∧ apart .focus .zoom ∧ apart .iris .zoom
    let named (x : Axis) := (c.axis x).mode = .track → some x ∈ c.schedule
    (legal → pageSettings p = c) ∧
    (pageRefusal p extent = none ↔ sum = 0 ∧ legal ∧ layout ∧
      (∀ x, inOrder x) ∧ units ∧ (∀ x, named x) ∧ 96 * c.linkRate.tau ≤ c.markPeriod) ∧
    (∀ r, pageRefusal p extent = some r →
      (sum ≠ 0 → r = { code := 18, detail := sum }) ∧
      (sum = 0 → 19 ≤ r.code ∧ r.code ≤ 24) ∧
      (r.code = 19 → (∃ f ∈ fields, f.1 = r.detail ∧ ¬ f.2) ∧
        ∀ f ∈ fields, f.1 < r.detail → f.2) ∧
      (19 < r.code → legal) ∧
      (r.code = 20 →
        (r.detail = 1 ∧ ¬ ringLies) ∨ (r.detail = 2 ∧ ringLies ∧ ¬ baseLies) ∨
        (r.detail = 3 ∧ ringLies ∧ baseLies ∧ ¬ baseApart) ∨
        (r.detail = 4 ∧ ringLies ∧ baseLies ∧ baseApart ∧ ¬ extentApart)) ∧
      (20 < r.code → layout) ∧
      (r.code = 21 →
        (r.detail = 39 ∧ ¬ inOrder .focus) ∨ (r.detail = 48 ∧ inOrder .focus ∧ ¬ inOrder .iris) ∨
        (r.detail = 57 ∧ inOrder .focus ∧ inOrder .iris ∧ ¬ inOrder .zoom)) ∧
      (21 < r.code → ∀ x, inOrder x) ∧
      (r.code = 22 → ∃ x y, ¬ apart x y ∧ x ≠ y ∧ (c.axis x).unit = r.detail) ∧
      (22 < r.code → units) ∧
      (r.code = 23 →
        (r.detail = 1 ∧ ¬ named .focus) ∨ (r.detail = 2 ∧ named .focus ∧ ¬ named .iris) ∨
        (r.detail = 3 ∧ named .focus ∧ named .iris ∧ ¬ named .zoom)) ∧
      (23 < r.code → ∀ x, named x) ∧
      (r.code = 24 → r.detail = 384 ∧ c.markPeriod < 96 * c.linkRate.tau)))

/-! ## The profile and the mount -/

/-- The header is fetched: the first check it fails makes the profile FAULTED with that reason and PFAULT,
otherwise the load enters BODY with its extent. The checks go in the order PARITY, LAYOUT, SERIAL, SHAPE. The
extent is the length of R76 from the base. It must stay clear of the ring in force and of the rings of the
frames not yet closed, as the begin notices queued and held, the slot being judged and the open slot give them:
the model's reading (log 35). -/
def Obligations.ProfileHeaderIsChecked : Prop :=
  (∀ (dt : Span) (s : State) (l : Load), let u := s.elapse dt
    u.pl.load = some l → l.phase = .header → (l.parityFailed = true ∨ l.words.length = 7) →
    (∀ why, headerFailure l u.ringAreas = some why →
      ∃ t, exec (.profileHeaderFetched dt) s = .next t ∧
        Settled { u with
          pl := { u.pl with
            st := .faulted, reason := why, failedSerial := l.serial, loaded := none, load := none,
            awaiting := false },
          ma := { u.ma with reqPl := none }, al := u.al.raise .pfault } t) ∧
    (headerFailure l u.ringAreas = none →
      ∃ t, exec (.profileHeaderFetched dt) s = .next t ∧
        Settled { u with pl := { u.pl with
          load := some { l with phase := .body, extent := some (profLength l.words) } } } t)) ∧
  (∀ (l : Load) (areas : List (Nat × Nat)),
    let dim (i : Nat) : Nat := (l.words.getD i 0).toNat
    let n := 7 + dim 4 + dim 3 + dim 5 + dim 6 + 4 * dim 3 * dim 4 + 3 * dim 5 * dim 4 * dim 6
    let serial : BitVec 32 := l.words.getD 0 0 ++ l.words.getD 1 0
    let misplaced := 32768 < l.base + n ∨ ∃ a ∈ areas, l.base < a.1 + a.2 ∧ a.1 < l.base + n
    let shaped := (2 ≤ dim 3 ∧ dim 3 ≤ 32) ∧ (1 ≤ dim 4 ∧ dim 4 ≤ 8) ∧
      (2 ≤ dim 5 ∧ dim 5 ≤ 16) ∧ (1 ≤ dim 6 ∧ dim 6 ≤ 6)
    profLength l.words = n ∧ profSerial l.words = serial ∧
    (l.parityFailed = true → headerFailure l areas = some .parity) ∧
    (l.parityFailed = false →
      (misplaced → headerFailure l areas = some .layout) ∧
      (¬ misplaced → serial ≠ l.serial → headerFailure l areas = some .serial) ∧
      (¬ misplaced → serial = l.serial →
        headerFailure l areas = if shaped then none else some .shape))) ∧
  (∀ (s : State) (x : Nat × Nat),
    let area (base slots bands : Nat) := (base, slots * (16 + 16 * bands))
    x ∈ s.ringAreas ↔
      (∃ a, s.sr.inForce = some a ∧
        x = area a.settings.ringBase a.settings.ringSlots a.settings.bands) ∨
      (∃ o, s.rw.openSlot = some o ∧ x = area o.ringBase o.ringSlots o.planned) ∨
      (∃ n, (WorkItem.opens n ∈ s.rw.queue ∨ WorkItem.opens n ∈ s.ft.heldNotices ∨
          (∃ i b k, s.rw.work = .judging n i b k) ∨ (∃ i b k, s.rw.work = .judged n i b k)) ∧
        x = area n.ringBase n.ringSlots n.bands))

/-- The body is fetched: a failed check faults the profile; a profile that passes waits in FINISHING while the
engine is COMPUTING, and otherwise becomes the store, READY with the mount PRESENT and no detach mark, UNBOUND
without; entering READY makes the held values absent, and a band being handed over then refills none. The checks
go in the order PARITY, SHAPE, RANGE, CHECK: each position list rises from 0 to 65,535, one of one position
holding 0; magnifications and coefficients lie in range; the words sum to 0. -/
def Obligations.ProfileBodyIsChecked : Prop :=
  (∀ (dt : Span) (s : State) (l : Load), let u := s.elapse dt
    u.pl.load = some l → l.phase = .body → (l.parityFailed = true ∨ some l.words.length = l.extent) →
    let aged (e : Engine) : Engine := match e with
      | .handingOver b r => .handingOver { b with stale := true } r
      | e => e
    let finished := { u.pl with
      store := l.words, load := none, awaiting := false,
      loaded := some { base := l.base, serial := profSerial l.words, extent := profLength l.words } }
    (∀ why, bodyFailure l = some why →
      ∃ t, exec (.profileBodyFetched dt) s = .next t ∧
        Settled { u with
          pl := { u.pl with
            st := .faulted, reason := why, failedSerial := l.serial, loaded := none, load := none,
            awaiting := false },
          ma := { u.ma with reqPl := none }, al := u.al.raise .pfault } t) ∧
    (∀ b, bodyFailure l = none → u.be.engine = .computing b →
      ∃ t, exec (.profileBodyFetched dt) s = .next t ∧
        Settled { u with pl := { u.pl with load := some { l with phase := .finishing } } } t) ∧
    (bodyFailure l = none → (∀ b, u.be.engine ≠ .computing b) → u.ms.mount = .present →
      l.detached = false →
      ∃ t, exec (.profileBodyFetched dt) s = .next t ∧
        Settled { u with
          pl := { finished with st := .ready },
          be := { engine := aged u.be.engine, held := { pos := none, u := none, a := none, z := none } },
          ma := { u.ma with reqPl := none }, al := u.al.raise .profile } t) ∧
    (bodyFailure l = none → (∀ b, u.be.engine ≠ .computing b) →
      (u.ms.mount = .absent ∨ l.detached = true) →
      ∃ t, exec (.profileBodyFetched dt) s = .next t ∧
        Settled { u with
          pl := { finished with st := .unbound },
          ma := { u.ma with reqPl := none }, al := u.al.raise .profile } t)) ∧
  (∀ l : Load,
    let p := l.words
    let rises (xs : List Nat) := xs = [0] ∨
      (xs.length ≠ 1 ∧ xs.head? = some 0 ∧ xs.getLast? = some 65535 ∧ xs.Pairwise (· < ·))
    let lists := rises (profZoom p) ∧ rises (profBreathingFocus p) ∧ rises (profShadingFocus p) ∧
      rises (profIris p)
    let magnified (v : Int) := 8192 ≤ v ∧ v ≤ 32767
    let gained (v : Int) := -16384 ≤ v ∧ v ≤ 16383
    let ranged :=
      (∀ n < profNub p * profNz p,
        magnified (breathingNode p n 0) ∧ magnified (breathingNode p n 1)) ∧
      (∀ n < profNuv p * profNz p * profNa p, ∀ k < 3, gained (shadingNode p n k))
    (l.parityFailed = true → bodyFailure l = some .parity) ∧
    (l.parityFailed = false →
      (¬ lists → bodyFailure l = some .shape) ∧
      (lists → ¬ ranged → bodyFailure l = some .range) ∧
      (lists → ranged →
        bodyFailure l = if (p.map BitVec.toNat).sum % 65536 = 0 then none else some .check)))

/-- The Profile Loader's decision when settings come in force: a load of their base and serial starts with
RELOAD, from EMPTY and FAULTED, and for a pair other than the one loaded or being loaded; otherwise UNBOUND is
bound to a PRESENT lens, a load in BODY or FINISHING that now shares a word with the ring fails LAYOUT, and
anything else stands. The loader presents the word after those fetched, from the base on, until its phase has
them all. A fetched word joins the load buffer, or ends the fetch when it fails parity; one fetched for an
abandoned load is dropped, its parity failure only latched (log 26). That a load which fails at the frame start
withdraws its fetch is the model's choice (log 44). -/
def Obligations.ProfileLoaderAdoptsAndFetches : Prop :=
  (∀ (s : State) (c : Settings),
    let started : State := { s with
      pl := { s.pl with
        st := .loading, reason := .none, awaiting := false,
        load := some
          { base := c.profileBase, serial := c.profileSerial, extent := none, phase := .header,
            detached := false, words := [], parityFailed := false } },
      ma := { s.ma with reqPl := none } }
    let aged (e : Engine) : Engine := match e with
      | .idle => .idle
      | .computing b => .computing { b with stale := true }
      | .handingOver b r => .handingOver { b with stale := true } r
    let other (base : Nat) (serial : BitVec 32) := c.profileBase ≠ base ∨ c.profileSerial ≠ serial
    (c.profileReload = true ∨ s.pl.st = .empty ∨ s.pl.st = .faulted → s.profileAdopts c = started) ∧
    (∀ l, (s.pl.st = .ready ∨ s.pl.st = .unbound) → s.pl.loaded = some l → other l.base l.serial →
      s.profileAdopts c = started) ∧
    (∀ l, s.pl.st = .loading → s.pl.load = some l → other l.base l.serial →
      s.profileAdopts c = started) ∧
    (∀ l, c.profileReload = false → s.pl.loaded = some l → ¬ other l.base l.serial →
      (s.pl.st = .ready → s.profileAdopts c = s) ∧
      (s.pl.st = .unbound → s.ms.mount = .absent → s.profileAdopts c = s) ∧
      (s.pl.st = .unbound → s.ms.mount = .present → s.profileAdopts c = { s with
        pl := { s.pl with st := .ready }, al := s.al.raise .profile,
        be := { held := { pos := none, u := none, a := none, z := none },
                engine := aged s.be.engine } })) ∧
    (∀ l, c.profileReload = false → s.pl.st = .loading → s.pl.load = some l → ¬ other l.base l.serial →
      (l.phase = .header → s.profileAdopts c = s) ∧
      (∀ n, (l.phase = .body ∨ l.phase = .finishing) → l.extent = some n →
        let shares := l.base < c.ringBase + c.ringSlots * (16 + 16 * c.bands) ∧ c.ringBase < l.base + n
        (¬ shares → s.profileAdopts c = s) ∧
        (shares → s.profileAdopts c = { s with
          pl := { s.pl with
            st := .faulted, reason := .layout, failedSerial := l.serial, loaded := none, load := none,
            awaiting := false },
          ma := { s.ma with reqPl := none }, al := s.al.raise .pfault })))) ∧
  (∀ (dt : Span) (s : State) (addr : Nat) (v : Stored), let u := s.elapse dt
    u.ma.inflight = some { who := .profileLoader, addr := addr, read := some v } →
    let e : State := { u with
      ma := { u.ma with inflight := none },
      al := if v.good then u.al else { u.al with faultAddr := BitVec.ofNat 15 addr } }
    (∀ l, u.pl.awaiting = true → u.pl.load = some l →
      exec (.memoryAccessComplete dt) s = .next (State.settle { e with pl := { u.pl with
        awaiting := false,
        load := some (if v.good then { l with words := l.words ++ [v.data] }
          else { l with parityFailed := true }) } } u)) ∧
    (u.pl.awaiting = false → exec (.memoryAccessComplete dt) s = .next (e.settle u))) ∧
  (∀ (s : State) (l : Load), s.ma.free .profileLoader = true → s.pl.load = some l →
    let wants := l.parityFailed = false ∧ ((l.phase = .header ∧ l.words.length < 7) ∨
      (l.phase = .body ∧ ∃ n, l.extent = some n ∧ l.words.length < n))
    (wants → s.presentPl = { s with
      ma := { s.ma with reqPl := some { addr := l.base + l.words.length, write := none } },
      pl := { s.pl with awaiting := true } }) ∧
    (¬ wants → s.presentPl = s))

/-- A mount sample, its timer reached: the first sets the mount directly and marks MOUNT; two HIGH in a row
attach; two LOW in a row detach, every TRACK axis starting again: with its expiry set on a link that is OFF or
STUCK, pending while a break is on the wire, and otherwise pending under the break that is now sent, which ends
a transaction in flight and a waiting MARK with BREAK for their axes (or none, when their mode or unit has
changed); any other keeps the mount. Before the timer is reached only the time changes. The next sample is
counted from the event's time: the model's choice (log 25), and so is the break in the wait after an ended one:
its reading (log 16), with a break that is owed staying owed: its choice (log 43). A command that is not due
changes only the time: the model's choice (log 3). -/
def Obligations.MountSampleDebouncesTheMount : Prop :=
  ∀ (dt : Span) (lens : Level) (s : State), let u := s.elapse dt
    (reached u.clk.tb u.ms.timer = false → exec (.mountSample dt lens) s = .next u) ∧
    (u.clk.resetn = true → reached u.clk.tb u.ms.timer = true →
    let next := u.clk.tb + micros u.mountPeriod
    (u.ms.lastRaw = none → exec (.mountSample dt lens) s = .next (State.settle { u with
        ms := { mount := if lens = .high then .present else .absent, lastRaw := some lens, timer := next },
        sr := { u.sr with marks :=
          mirrorFields.filter (fun f => u.sr.marks.contains f || f == .mount) } } u)) ∧
    (u.ms.lastRaw = some .high → lens = .high → u.ms.mount = .absent →
      exec (.mountSample dt lens) s = .next (State.settle { u with
        ms := { mount := .present, lastRaw := some .high, timer := next },
        al := u.al.raise .lens } u)) ∧
    (u.ms.lastRaw = some .low → lens = .low → u.ms.mount = .present →
      let brief := (u.lc.st = .breakTx ∧ u.lc.breakEnd = none) ∨
        (u.lc.st = .breakRx ∧ u.lc.breakOver = true)
      let held := (u.lc.st = .breakTx ∧ u.lc.breakEnd ≠ none) ∨
        (u.lc.st = .breakRx ∧ u.lc.breakOver = false)
      let sends := u.lc.st = .idle ∨ u.lc.st = .sending ∨ u.lc.st = .awaitReply ∨
        u.lc.st = .receiving ∨ brief
      let detached (b : Blanking) : State := { u with
        ms := { mount := .absent, lastRaw := some .low, timer := next },
        al := (u.al.raise .lens).raiseWhen u.someTrackLost .axis,
        axes := u.restartedAxes b,
        pl := match u.pl.st with
          | .ready => { u.pl with st := .unbound }
          | .loading => { u.pl with load := u.pl.load.map (fun l => { l with detached := true }) }
          | _ => u.pl }
      (u.lc.st = .off ∨ u.lc.st = .stuck → exec (.mountSample dt lens) s =
        .next ((detached (.until u.blankUntil)).settle u)) ∧
      (held → exec (.mountSample dt lens) s =
        .next ((detached (.pending u.blankTime)).settle u)) ∧
      (sends → exec (.mountSample dt lens) s =
        .next (State.settle { detached (.pending u.blankTime) with
          axes := u.marksBroken (u.restartedAxes (.pending u.blankTime)),
          lc := { u.lc with
            st := .breakTx, tick := none, trans := none, waiting := none, rx := none, reading := none,
            dominant := none, breakEnd := some (u.clk.tb + micros (40 * u.rate.tau)), breakOver := false } } u)) ∧
      (∀ (m : Transaction) (a : Adopted), sends → u.lc.trans = some m → u.sr.inForce = some a →
        (a.settings.axis m.axis).mode = .track → (a.settings.axis m.axis).unit = m.unit →
        ∃ t, exec (.mountSample dt lens) s = .next t ∧ t.ms.mount = .absent ∧
          t.lc.st = .breakTx ∧ t.lc.trans = none ∧ t.lc.waiting = none ∧ t.lc.tick = none ∧
          t.lc.breakEnd = some (u.clk.tb + micros (40 * u.rate.tau)) ∧
          (t.axes.get m.axis).lastCompletion = .broken ∧ (t.axes.get m.axis).st = .seeking ∧
          (t.axes.get m.axis).track = [] ∧ (t.axes.get m.axis).blanking = .pending a.settings.blankTime)) ∧
    (∀ last, u.ms.lastRaw = some last →
      (lens ≠ last ∨ (lens = .high ∧ u.ms.mount = .present) ∨ (lens = .low ∧ u.ms.mount = .absent)) →
      exec (.mountSample dt lens) s = .next
        (State.settle { u with ms := { u.ms with lastRaw := some lens, timer := next } } u)))

/-! ## Axes -/

/-- A set blanking expiry that is reached makes the axis NOT_BLANKING and changes nothing else; a pending or
unreached expiry changes nothing. A command that is not due changes only the time: the model's choice (log
3). -/
def Obligations.BlankingExpiryEndsBlanking : Prop :=
  ∀ (dt : Span) (x : Axis) (s : State), let u := s.elapse dt
    (∀ e, (u.axes.get x).blanking = .until e → reached u.clk.tb e = true →
      ∃ t, exec (.blankingExpiry dt x) s = .next t ∧
        Settled { u with axes := u.axes.set x { u.axes.get x with blanking := .notBlanking } } t) ∧
    (∀ e, (u.axes.get x).blanking = .until e → reached u.clk.tb e = false →
      exec (.blankingExpiry dt x) s = .next u) ∧
    (∀ n, (u.axes.get x).blanking = .pending n → exec (.blankingExpiry dt x) s = .next u)

/-- A good reply (OK) on an axis record: misses 0, status and position taken, SEEKING and LOST to QUALIFYING
with good count 1, QUALIFYING one up, LIVE at Q, STALE to LIVE; the sample joins a track it is later than, the
oldest leaving a full one. Taken for an axis it changes that record alone, with AXIS raised when the axis was
LOST. -/
def Obligations.GoodReplyAdvancesAnAxis : Prop :=
  (∀ (x : Axis) (cfg : AxisSettings) (r : AxisRec) (p : Sample) (status : Byte),
    r.track.length ≤ trackCap x →
    let r' := r.complete (trackCap x) cfg .ok (some (p, status))
    r'.misses = 0 ∧ r'.unitStatus = status ∧ r'.lastPos = p.pos ∧ r'.lastCompletion = .ok ∧
    r'.blanking = r.blanking ∧ r'.lastNote = r.lastNote ∧
    ((r.st = .seeking ∨ r.st = .lost) →
      r'.good = 1 ∧ r'.st = if cfg.qualify ≤ 1 then .live else .qualifying) ∧
    (r.st = .qualifying →
      r'.good = r.good + 1 ∧ r'.st = if cfg.qualify ≤ r.good + 1 then .live else .qualifying) ∧
    ((r.st = .live ∨ r.st = .stale) → r'.good = r.good ∧ r'.st = .live) ∧
    (r.track = [] → r'.track = [p]) ∧
    (∀ n, r.track.getLast? = some n → later p.time n.time = false → r'.track = r.track) ∧
    (∀ n, r.track.getLast? = some n → later p.time n.time = true →
      r'.track = if r.track.length < trackCap x then r.track ++ [p] else r.track.tail ++ [p])) ∧
  (∀ (s : State) (a : Adopted) (x : Axis) (unit : Nat) (p : Sample) (status : Byte),
    s.sr.inForce = some a → (a.settings.axis x).mode = .track → (a.settings.axis x).unit = unit →
    s.deliver x unit .ok (some (p, status)) = { s with
      axes := s.axes.set x
        ((s.axes.get x).complete (trackCap x) (a.settings.axis x) .ok (some (p, status))),
      al := s.al.raiseWhen ((s.axes.get x).st == .lost) .axis })

/-- A bad completion on an axis record: nothing but the last completion while BLANKING; otherwise one miss more
up to 255, the good count of QUALIFYING 0, LOST at LOST_MISSES, else LIVE to STALE at STALE_MISSES; the track
stands. Taken for an axis it changes that record alone, with AXIS raised when the axis enters LOST. -/
def Obligations.BadCompletionCountsAMiss : Prop :=
  (∀ (cap : Nat) (cfg : AxisSettings) (r : AxisRec) (c : Completion) (y : Option (Sample × Byte)),
    (c = .noReply ∨ c = .checkFault ∨ c = .framing ∨ c = .bitFault) →
    let r' := r.complete cap cfg c y
    let misses := min 255 (r.misses + 1)
    (r.blanking ≠ .notBlanking → r' = { r with lastCompletion := c }) ∧
    (r.blanking = .notBlanking →
      r' = { r with
        lastCompletion := c, misses := misses,
        good := if r.st = .qualifying then 0 else r.good,
        st :=
          if (r.st = .seeking ∨ r.st = .qualifying ∨ r.st = .live ∨ r.st = .stale) ∧
              cfg.lostMisses ≤ misses then .lost
          else if r.st = .live ∧ cfg.staleMisses ≤ misses then .stale else r.st })) ∧
  (∀ (s : State) (a : Adopted) (x : Axis) (unit : Nat) (c : Completion),
    s.sr.inForce = some a → (a.settings.axis x).mode = .track → (a.settings.axis x).unit = unit →
    (c = .noReply ∨ c = .checkFault ∨ c = .framing ∨ c = .bitFault) →
    let r := s.axes.get x
    let r' := r.complete (trackCap x) (a.settings.axis x) c none
    s.deliver x unit c none = { s with
      axes := s.axes.set x r', al := s.al.raiseWhen (r.st != .lost && r'.st == .lost) .axis })

/-! ## The axis link -/

/-- A tick: the pointer advances, the next tick is P later, and the MARK of a TRACK axis becomes due. With no
MARK waiting it starts on an IDLE link with the next sequence, joins another node's LEAD with that LEAD's bit
timing, and waits while the part's own MARK is in flight and at any other point of another node's frame, its
reply included; a slot that names no TRACK axis starts nothing. With a MARK waiting on a busy link that MARK is
dropped: SKIPPED is taken by its axis, or discarded when its mode or unit has changed (R25), no sequence is
used, and the slot's own MARK then waits, or joins. A LEAD can be joined while it is dominant and its third bit
middle has not passed (log 24). The next tick is counted from the event's time: the model's choice (log 25). -/
def Obligations.MarkTickStartsOrSkipsAMark : Prop :=
  ∀ (dt : Span) (s : State) (t0 : Time) (a : Adopted), let u := s.elapse dt
    u.lc.tick = some t0 → reached u.clk.tb t0 = true → u.sr.inForce = some a →
    let mode (x : Axis) := (a.settings.axis x).mode
    let unit (x : Axis) := (a.settings.axis x).unit
    let names (x : Axis) := a.settings.schedule[u.lc.pointer]? = some (some x) ∧ mode x = .track
    let next : Link := { u.lc with
      pointer := (u.lc.pointer + 1) % 8, tick := some (u.clk.tb + micros a.settings.markPeriod),
      waiting := none }
    let sending (x : Axis) (r : Reading) : Link := { next with
      st := .sending, seq := u.lc.seq + 1, rx := none, reading := some r, dominant := none,
      trans := some
        { axis := x, unit := unit x, seq := u.lc.seq + 1, code := .ok,
          windowAt := none, sampleTime := none, reply := none, interpreted := true } }
    let waits (x : Axis) : Link := { next with waiting := some (x, unit x) }
    let joins (r : Reading) := u.lc.st = .receiving ∧ u.lc.reading = some r ∧
      (∃ f, u.lc.rx = some f ∧ f.joinable = true ∧ f.interpreted = true ∧ f.replied = false) ∧
      u.wire.level = .low ∧ r.bits.length < 3 ∧ ∀ b ∈ r.bits, b = false
    let ticks (axes : Axes) :=
      (∀ x r, names x → joins r → ∃ t, exec (.markTick dt) s = .next t ∧
        Settled { u with axes := axes, lc := sending x r } t) ∧
      (∀ x, names x → (u.lc.st = .sending ∨ u.lc.st = .awaitReply ∨ u.lc.st = .receiving) →
        (∀ r, ¬ joins r) → ∃ t, exec (.markTick dt) s = .next t ∧
        Settled { u with axes := axes, lc := waits x } t) ∧
      ((∀ x, ¬ names x) → ∃ t, exec (.markTick dt) s = .next t ∧
        Settled { u with axes := axes, lc := next } t)
    (u.lc.waiting = none → ticks u.axes ∧
      (∀ x, names x → u.lc.st = .idle → ∃ t, exec (.markTick dt) s = .next t ∧
        Settled { u with lc := sending x { start := u.clk.tb, bits := [] } } t)) ∧
    (∀ x n, u.lc.waiting = some (x, n) →
      (mode x = .track → unit x = n →
        ticks (u.axes.set x { u.axes.get x with lastCompletion := .skipped })) ∧
      (mode x ≠ .track ∨ unit x ≠ n → ticks u.axes))

/-- END-OF-DATA ends 30 bit times after the LEAD's falling edge, every bit read back as sent: the sample time is
the timebase less LINK_LATENCY and the link awaits the reply. A falling edge of another node at or before the
window's close, 4 bit times later, is the REPLY-LEAD: the reply is read from it. Without one the transaction
ends NO_REPLY, taken by an axis still in TRACK on its unit and discarded otherwise (R25), and the link is free;
before the close only the time changes. That a wire already dominant when END_OF_DATA comes has given the
REPLY-LEAD is the model's choice (log 19; a level that began in END-OF-DATA is bound from its start), and so are
a sample time taken at the command's own time (log 29) and that a command that is not due changes only the time
(log 3). -/
def Obligations.EndOfDataAndReplyWindow : Prop :=
  (∀ (dt : Span) (s : State) (m : Transaction) (a : Adopted), let u := s.elapse dt
    u.lc.trans = some m → u.sr.inForce = some a →
    let mine := (a.settings.axis m.axis).mode = .track ∧ (a.settings.axis m.axis).unit = m.unit
    let awaiting : Link := { u.lc with
      st := .awaitReply, reading := none,
      trans := some { m with
        sampleTime := some (u.clk.tb - micros a.settings.linkLatency), windowAt := some u.clk.tb } }
    (∀ r, u.lc.st = .sending → u.lc.reading = some r → r.bits.take 30 = markBits m.unit m.seq →
      30 * u.rate.tau ≤ u.into r →
      (u.wire.level = .high → ∃ t, exec (.endOfData dt) s = .next t ∧
        Settled { u with lc := awaiting } t) ∧
      (u.wire.level = .low → ∃ t, exec (.endOfData dt) s = .next t ∧
        Settled { u with lc := { awaiting with
          st := .receiving, reading := some u.readingSinceFall,
          dominant := some
            { length := u.held, bound := decide (u.into r < u.wire.age + 30 * u.rate.tau) } } } t)) ∧
    (∀ r, u.lc.st = .sending → u.lc.reading = some r → u.into r < 30 * u.rate.tau →
      exec (.endOfData dt) s = .next u) ∧
    (∀ w, u.lc.st = .awaitReply → m.windowAt = some w →
      reached u.clk.tb (w + micros (4 * u.rate.tau)) = false → exec (.replyWindowClose dt) s = .next u) ∧
    (∀ w, u.lc.st = .awaitReply → m.windowAt = some w →
      reached u.clk.tb (w + micros (4 * u.rate.tau)) = true → ¬ mine →
      exec (.replyWindowClose dt) s =
        .next (State.settle (State.linkFree { u with lc := { u.lc with trans := none } }) u)) ∧
    (∀ w, u.lc.st = .awaitReply → m.windowAt = some w → m.code = .ok →
      reached u.clk.tb (w + micros (4 * u.rate.tau)) = true →
      mine → let old := u.axes.get m.axis
      let new := old.complete (trackCap m.axis) (a.settings.axis m.axis) .noReply none
      exec (.replyWindowClose dt) s = .next (State.settle (State.linkFree { u with
        axes := u.axes.set m.axis new,
        al := u.al.raiseWhen (old.st != .lost && new.st == .lost) .axis,
        lc := { u.lc with trans := none } }) u))) ∧
  (∀ (s : State) (m : Transaction) (w : Time),
    s.clk.resetn = true → s.wire.level = .high → s.lc.st = .awaitReply → s.lc.trans = some m →
    m.windowAt = some w →
    let close := w + micros (4 * s.rate.tau)
    (later s.clk.tb close = false → s.edge.lc = { s.lc with
      st := .receiving, reading := some { start := s.clk.tb, bits := [] },
      dominant := some { length := 0, bound := false } }) ∧
    (later s.clk.tb close = true → s.edge.lc.st = .awaitReply ∧ s.edge.lc.reading = s.lc.reading ∧
      s.edge.lc.trans = s.lc.trans))

/-- A reply read whole, 41 bits from the edge of its REPLY-LEAD, gives position and status; the pending code is
CHECK_FAULT when its CHECK is not the CRC over the sequence and the four bytes. Before the 41 bits are read
nothing but the time changes. That the command's operands are the bytes read is the model's choice (log 42), and
so is that a command that is not due changes only the time (log 3). -/
def Obligations.ReplyReceivedIsChecked : Prop :=
  ∀ (dt : Span) (p2 p1 p0 status check : Byte) (s : State) (m : Transaction) (r : Reading),
    let u := s.elapse dt
    u.lc.trans = some m → u.lc.st = .receiving → m.interpreted = true → m.reply = none → m.code = .ok →
    u.lc.reading = some r →
    (41 ≤ r.bits.length →
      (r.bits.drop 1).take 40 = [p2, p1, p0, status, check].flatMap byteBits →
      ∃ t, exec (.replyReceived dt p2 p1 p0 status check) s = .next t ∧
        Settled { u with lc := { u.lc with
          trans := some { m with
            reply := some (p2 ++ p1 ++ p0, status),
            code := if check = crc8 [m.seq, p2, p1, p0, status] then .ok else .checkFault } } } t) ∧
    (r.bits.length < 41 → exec (.replyReceived dt p2 p1 p0 status check) s = .next u)

/-- A transaction ends when the link is free: after END-OF-FRAME, six recessive bit times from the end of the
reply CHECK, or, no longer interpreted, after six recessive bit times. Its one completion is OK with sample and
status, or its fault code, taken by the axis that is still in TRACK on its unit and discarded otherwise (R25);
the link is then IDLE, or starts the MARK that waits. A command that is not due changes only the time: the
model's choice (log 3). -/
def Obligations.TransactionEndDeliversOk : Prop :=
  ∀ (dt : Span) (s : State) (m : Transaction) (a : Adopted), let u := s.elapse dt
    u.lc.trans = some m → u.lc.st = .receiving → u.sr.inForce = some a →
    let ends := (m.interpreted = true ∧ m.reply ≠ none ∧ ∃ r, u.lc.reading = some r ∧
        47 * u.rate.tau ≤ u.into r ∧ u.into r ≤ u.recessive + 41 * u.rate.tau) ∨
      (m.interpreted = false ∧ 6 * u.rate.tau ≤ u.recessive)
    let mine := (a.settings.axis m.axis).mode = .track ∧ (a.settings.axis m.axis).unit = m.unit
    let old := u.axes.get m.axis
    let gone : State := { u with lc := { u.lc with trans := none } }
    let taken (y : Option (Sample × Byte)) : State :=
      let new := old.complete (trackCap m.axis) (a.settings.axis m.axis) m.code y
      { gone with
        axes := u.axes.set m.axis new,
        al := u.al.raiseWhen ((old.st == .lost) != (new.st == .lost)) .axis }
    (∀ at' pos status, ends → mine → m.code = .ok → m.sampleTime = some at' →
      m.reply = some (pos, status) →
      exec (.transactionEnd dt) s =
        .next (((taken (some ({ time := at', pos := pos }, status))).linkFree).settle u)) ∧
    (ends → mine → (m.code = .checkFault ∨ m.code = .framing ∨ m.code = .bitFault) →
      exec (.transactionEnd dt) s = .next (((taken none).linkFree).settle u)) ∧
    (ends → ¬ mine → exec (.transactionEnd dt) s = .next (gone.linkFree.settle u)) ∧
    (¬ ends → exec (.transactionEnd dt) s = .next u)

/-- The first bit that reads back different from the bit sent: a recessive header bit that reads dominant loses
the arbitration, LOST_ARB is delivered at once (discarded if the axis or its unit has changed, R25) and the
winner is read on with the bits already read; anywhere else it is a bit fault that leaves the transaction with
BIT_FAULT, no longer interpreted. The part stops driving. The sequence is not taken back. -/
def Obligations.ArbitrationAndBitFaults : Prop :=
  ∀ (dt : Span) (s : State) (m : Transaction) (a : Adopted) (r : Reading) (i : Nat), let u := s.elapse dt
    u.lc.trans = some m → u.lc.st = .sending → u.sr.inForce = some a → m.code = .ok →
    u.lc.reading = some r →
    let sent := markBits m.unit m.seq
    r.bits.take i = sent.take i → sent[i]? = some true → r.bits[i]? = some false →
    let mine := (a.settings.axis m.axis).mode = .track ∧ (a.settings.axis m.axis).unit = m.unit
    let lost : Link := { u.lc with
      st := .receiving, trans := none,
      rx := some { joinable := false, interpreted := true, framing := false, replied := false } }
    (4 ≤ i → i < 12 → mine → ∃ t, exec (.lostArbitration dt) s = .next t ∧ t.drivesAxl = false ∧
      Settled { u with
        axes := u.axes.set m.axis { u.axes.get m.axis with lastCompletion := .lostArb },
        lc := lost } t) ∧
    (4 ≤ i → i < 12 → ¬ mine → ∃ t, exec (.lostArbitration dt) s = .next t ∧ t.drivesAxl = false ∧
      Settled { u with lc := lost } t) ∧
    (i < 4 ∨ 12 ≤ i → ∃ t, exec (.bitFault dt) s = .next t ∧ t.drivesAxl = false ∧
      Settled { u with lc := { u.lc with
        st := .receiving, reading := none,
        trans := some { m with code := .bitFault, interpreted := false },
        dominant := some { length := u.held, bound := true } } } t)

/-- A frame of another node begins at the falling edge on the IDLE wire. It is judged FRAMING by its LEAD, by a
dominant level where it must be recessive (after its CHECK, or the reply CHECK once a REPLY-LEAD has been seen),
or by its kind. The REPLY-LEAD of another node's MARK starts the bit timing of a reply. The link is free after
END-OF-FRAME, or, no longer interpreted, after six recessive bit times: it is IDLE, or the waiting MARK starts.
No axis changes. A dominant level in the END-OF-FRAME of the part's own reply is FRAMING if the code is still
OK. That RECEIVED_FRAME_FRAMING names the cause AXL shows is the model's choice (log 42), and that a command
that is not due changes only the time (log 3). -/
def Obligations.FramesOfOtherNodes : Prop :=
  (∀ (dt : Span) (s : State), let u := s.elapse dt
    let brokeAfter (r : Reading) (e : Nat) := e * u.rate.tau ≤ u.into r ∧
      (u.wire.level = .low ∨ u.recessive + e * u.rate.tau < u.into r)
    (u.lc.st = .idle → u.wire.level = .low → ∃ t, exec (.receivedFrameBegin dt) s = .next t ∧
      Settled { u with lc := { u.lc with
        st := .receiving, reading := some u.readingSinceFall,
        rx := some { joinable := true, interpreted := true, framing := false, replied := false } } } t) ∧
    (u.lc.st = .idle → u.wire.level = .high → exec (.receivedFrameBegin dt) s = .next u) ∧
    (∀ f r, u.lc.st = .receiving → u.lc.trans = none → u.lc.rx = some f → u.lc.reading = some r →
      let framed (c : FramingCause) (f' : RxFrame) := ∃ t,
        exec (.receivedFrameFraming dt c) s = .next t ∧
        Settled { u with lc := { u.lc with rx := some f' } } t
      let broken := { f with interpreted := false, framing := true, joinable := false }
      let ends := exec (.receivedFrameEnd dt) s = .next (u.linkFree.settle u)
      let quiet (e : Nat) := (e + 6) * u.rate.tau ≤ u.into r ∧ u.into r ≤ u.recessive + e * u.rate.tau
      (f.interpreted = true → f.replied = false → ¬ r.bits.take 4 <+: [false, false, false, true] →
        framed .invalidLead broken) ∧
      (f.interpreted = true → f.replied = true → brokeAfter r 41 → framed .boundDominant broken) ∧
      (∀ h : Byte, f.interpreted = true → f.replied = false →
        r.bits.take 12 = [false, false, false, true] ++ byteBits h →
        let e := 20 + 8 * (h.extractLsb' 0 3).toNat
        (brokeAfter r e → framed .boundDominant broken) ∧
        (¬ brokeAfter r e → f.framing = false → 2 ≤ (h.extractLsb' 6 2).toNat →
          framed (.unusedKind h) { f with framing := true, joinable := false }) ∧
        ((h.extractLsb' 6 2).toNat ≠ 0 ∨ f.framing = true → quiet e → ends)) ∧
      (f.interpreted = true → f.replied = true → quiet 41 → ends) ∧
      (f.interpreted = false → 6 * u.rate.tau ≤ u.recessive → ends) ∧
      (f.interpreted = false → u.recessive < 6 * u.rate.tau →
        exec (.receivedFrameEnd dt) s = .next u)) ∧
    (∀ m r, u.lc.st = .receiving → u.lc.trans = some m → m.interpreted = true → m.reply ≠ none →
      u.lc.reading = some r → brokeAfter r 41 →
      ∃ t, exec (.receivedFrameFraming dt .boundDominant) s = .next t ∧
        Settled { u with lc := { u.lc with
          reading := none, trans := some { m with
            code := if m.code = .ok then .framing else m.code, interpreted := false } } } t)) ∧
  (∀ s : State,
    (s.lc.waiting = none → s.linkFree =
      { s with lc := { s.lc with st := .idle, rx := none, reading := none, dominant := none } }) ∧
    (∀ x unit, s.lc.waiting = some (x, unit) → s.linkFree = { s with lc := { s.lc with
      st := .sending, seq := s.lc.seq + 1, waiting := none, rx := none, dominant := none,
      reading := some { start := s.clk.tb, bits := [] },
      trans := some
        { axis := x, unit := unit, seq := s.lc.seq + 1, code := .ok, windowAt := none,
          sampleTime := none, reply := none, interpreted := true } } })) ∧
  (∀ (s : State) (f : RxFrame) (r : Reading) (h : Byte),
    s.clk.resetn = true → s.wire.level = .high → s.lc.st = .receiving → s.lc.trans = none →
    s.lc.rx = some f → s.lc.reading = some r → f.interpreted = true → f.replied = false →
    r.bits.take 12 = [false, false, false, true] ++ byteBits h → h.extractLsb' 6 2 = 1 →
    let e := 20 + 8 * (h.extractLsb' 0 3).toNat
    (e + 2) * s.rate.tau ≤ s.into r → s.into r ≤ (e + 6) * s.rate.tau →
    s.into r ≤ s.recessive + e * s.rate.tau →
    s.edge.lc = { s.lc with
      rx := some { f with replied := true }, reading := some { start := s.clk.tb, bits := [] },
      dominant := some { length := 0, bound := false } })

/-- A NOTE read whole, of LEAD, header, as many data bytes as its header announces and CHECK, is judged once its
END-OF-FRAME is complete. With the right CHECK, one or four data bytes and a code 1 to 3 it acts on the TRACK
axis of its address, four bytes giving it a position; a length of neither, a wrong CHECK or another code
discards it. Either way the link is free. Each is given as the state in which the step ends. That this step also
frees the link, that the operands are the bytes read, and that a FAULT note zeroes the good count of an axis
already LOST, are the model's choices (log 20, 42, 40). -/
def Obligations.NoteReceivedIsJudged : Prop :=
  ∀ (dt : Span) (h check : Byte) (data : List Byte) (s : State) (f : RxFrame) (r : Reading),
    let u := s.elapse dt
    u.lc.st = .receiving → u.lc.trans = none → u.lc.rx = some f → u.lc.reading = some r →
    f.interpreted = true → f.framing = false → f.replied = false →
    h.extractLsb' 6 2 = 0 → (h.extractLsb' 0 3).toNat = data.length →
    let e := 20 + 8 * data.length
    r.bits.take e = [false, false, false, true] ++ (h :: data ++ [check]).flatMap byteBits →
    (e + 6) * u.rate.tau ≤ u.into r → u.into r ≤ u.recessive + e * u.rate.tau →
    let named (code : Byte) (n : NoteCode) :=
      (code = 1 ∧ n = .endstop) ∨ (code = 2 ∧ n = .fault) ∨ (code = 3 ∧ n = .rezero)
    (check ≠ crc8 (h :: data) ∨ (data.length ≠ 1 ∧ data.length ≠ 4) ∨
        (∀ code rest n, data = code :: rest → ¬ named code n) →
      exec (.noteReceived dt h data check) s = .next (u.linkFree.settle u)) ∧
    (∀ code rest n, data = code :: rest → (rest.length = 0 ∨ rest.length = 3) →
      check = crc8 (h :: data) → named code n →
      let takes (x : Axis) : Bool := u.mode x == .track && u.unit x == (h.extractLsb' 3 3).toNat
      let noted (a : AxisRec) : AxisRec :=
        let pos := match rest with
          | [p2, p1, p0] => p2 ++ p1 ++ p0
          | _ => a.lastPos
        match n with
        | .fault => { a with lastNote := .fault, lastPos := pos, st := .lost, good := 0 }
        | .rezero => { a with lastNote := .rezero, lastPos := pos, st := .qualifying, track := [], good := 0 }
        | n => { a with lastNote := n, lastPos := pos }
      let moved (x : Axis) : AxisRec := if takes x then noted (u.axes.get x) else u.axes.get x
      let crossed (x : Axis) : Bool := ((u.axes.get x).st == .lost) != ((moved x).st == .lost)
      exec (.noteReceived dt h data check) s = .next (State.settle (State.linkFree { u with
        axes := { focus := moved .focus, iris := moved .iris, zoom := moved .zoom },
        al := u.al.raiseWhen (crossed .focus || crossed .iris || crossed .zoom) .axis }) u))

/-- A dominant level measured for 16 bit times that has been at a bound position begins a break, also a second
one in the wait after a break; one wholly in free positions never does. Its end, when the wire is recessive,
sets the blanking expiry; the part's own break ends at its release on a recessive wire, or goes on as the other
node's. A transaction in flight, and a waiting MARK, ends with BREAK for its axis, or with no completion taken
when that axis has changed its mode or unit; every TRACK axis then starts again from SEEKING, and the link is in
BREAK_RX. The measure starts at a falling edge and counts while the wire is low, the part's own driving left out
(LinkIsFreeAfterABreak says since when the part has not driven). The bound positions are all but the header,
data and CHECK, and the REPLY-LEAD and reply, of a frame still interpreted. That the operands are the measure
and the level is the model's choice (log 42), and so is that a command that is not due changes only the time
(log 3); a second break in the wait of BREAK_TX is its reading (log 17). The expiry takes the BLANK_TIME in
force when the period began: its reading (log 39). -/
def Obligations.BreaksBeginAndEnd : Prop :=
  (∀ (dt : Span) (s : State), let u := s.elapse dt
    let waits := (u.lc.st = .breakRx ∨ u.lc.st = .breakTx) ∧ u.lc.breakOver = true
    let bound := u.atBound = true ∨ ∃ d, u.lc.dominant = some d ∧ d.bound = true
    let long := u.wire.level = .low ∧ 16 * u.rate.tau ≤ u.held
    let expired (r : AxisRec) : AxisRec := match r.blanking with
      | .pending n => { r with blanking := .until (u.clk.tb + micros (1000 * n)) }
      | _ => r
    let ended : Axes :=
      { focus := expired u.axes.focus, iris := expired u.axes.iris, zoom := expired u.axes.zoom }
    (∀ held : Time, (u.lc.st = .idle ∨ u.lc.st = .sending ∨ u.lc.st = .awaitReply ∨
        u.lc.st = .receiving ∨ waits) → long → bound → held.toNat = u.held →
      ∃ t, exec (.breakRecognised dt held) s = .next t ∧
        Settled { u with
          axes := u.marksBroken (u.restartedAxes (.pending u.blankTime)),
          al := u.al.raiseWhen u.someTrackLost .axis,
          lc := { u.lc with
            st := .breakRx, tick := none, trans := none, waiting := none, rx := none, reading := none,
            dominant := some { length := u.held, bound := true },
            breakEnd := none, breakOver := false } } t) ∧
    (∀ held : Time, ¬ (long ∧ bound) → exec (.breakRecognised dt held) s = .next u) ∧
    (∀ d, u.lc.st = .breakRx → u.lc.breakOver = false → u.lc.dominant = some d →
      d.length < 2048 * u.rate.tau → u.wire.level = .high →
      ∃ t, exec (.sensedBreakEnd dt) s = .next t ∧
        Settled { u with axes := ended, lc := { u.lc with breakOver := true, dominant := none } } t) ∧
    (∀ e, u.lc.st = .breakTx → u.lc.breakEnd = some e → reached u.clk.tb e = true →
      (u.wire.level = .high → ∃ t, exec (.sentBreakRelease dt .high) s = .next t ∧
        Settled { u with axes := ended, lc := { u.lc with breakEnd := none, breakOver := true } } t) ∧
      (u.wire.level = .low → ∃ t, exec (.sentBreakRelease dt .low) s = .next t ∧
        Settled { u with lc := { u.lc with
          st := .breakRx, breakEnd := none, breakOver := false,
          dominant := some { length := u.held, bound := true } } } t)) ∧
    (∀ (held : Time) (m : Transaction) (a : Adopted),
      (u.lc.st = .sending ∨ u.lc.st = .awaitReply ∨ u.lc.st = .receiving) → u.lc.trans = some m →
      u.sr.inForce = some a → (a.settings.axis m.axis).mode = .track →
      (a.settings.axis m.axis).unit = m.unit → long → bound → held.toNat = u.held →
      ∃ t, exec (.breakRecognised dt held) s = .next t ∧
        t.lc.st = .breakRx ∧ t.lc.trans = none ∧ t.lc.waiting = none ∧ t.lc.tick = none ∧
        t.lc.seq = u.lc.seq ∧
        (t.axes.get m.axis).lastCompletion = .broken ∧ (t.axes.get m.axis).st = .seeking ∧
        (t.axes.get m.axis).track = [] ∧ (t.axes.get m.axis).blanking = .pending a.settings.blankTime ∧
        (t.axes.get m.axis).unitStatus = (u.axes.get m.axis).unitStatus)) ∧
  (∀ s : State,
    (∀ a, s.sr.inForce = some a → s.blankTime = a.settings.blankTime ∧
      s.blankUntil = s.clk.tb + micros (1000 * a.settings.blankTime)) ∧
    (s.held = if s.wire.level = .low then min s.wire.age s.wire.own else 0) ∧
    (∀ d, s.clk.resetn = true → s.lc.st ≠ .off → (s.pass d).wire.level = .low →
      (s.pass d).lc.dominant = some
        { length := (s.pass d).held,
          bound := s.lc.dominant.any (·.bound) || (s.pass d).atBound }) ∧
    (s.clk.resetn = true → s.wire.level = .high → (s.lc.st = .idle ∨ s.lc.st = .sending ∨
        s.lc.st = .breakRx ∨ s.lc.st = .breakTx ∨ s.lc.st = .stuck) →
      s.edge.lc = { s.lc with dominant := some { length := 0, bound := s.atBound } }) ∧
    (∀ r, s.lc.reading = some r →
      let within (m n : Nat) := m * s.rate.tau ≤ s.into r ∧ s.into r < n * s.rate.tau
      (s.lc.st = .sending → s.lc.trans ≠ none → (s.atBound = false ↔ within 4 28)) ∧
      (∀ m, s.lc.st = .receiving → s.lc.trans = some m →
        (s.atBound = false ↔ m.interpreted = true ∧ within 0 41)) ∧
      (∀ f, s.lc.st = .receiving → s.lc.trans = none → s.lc.rx = some f →
        (f.interpreted = false → s.atBound = true) ∧
        (f.interpreted = true → f.replied = true → (s.atBound = false ↔ within 0 41)) ∧
        (∀ h : Byte, f.interpreted = true → f.replied = false →
          r.bits.take 12 = [false, false, false, true] ++ byteBits h →
          (s.atBound = false ↔ within 4 (20 + 8 * (h.extractLsb' 0 3).toNat))) ∧
        (f.interpreted = true → f.replied = false → r.bits.length < 12 →
          r.bits.take 4 <+: [false, false, false, true] → (s.atBound = false ↔ within 4 12)) ∧
        (f.interpreted = true → f.replied = false → ¬ r.bits.take 4 <+: [false, false, false, true] →
          s.atBound = true))) ∧
    (s.lc.reading = none → s.atBound = true))

/-- Six recessive bit times after a break, counted afresh from the end of every dominant level: IDLE with the
timer restarted, or the owed break at once. The wire counts since when the part has not driven it dominant: not
at all in a break it sends, up to the break's end; from the end of the last dominant bit time it drove of its
MARK, of which it drives the bits before the first that reads back different, on a wire held low up to the next
recessive one; and every microsecond otherwise. A command that is not due changes only the time: the model's
choice (log 3). -/
def Obligations.LinkIsFreeAfterABreak : Prop :=
  (∀ (dt : Span) (s : State), let u := s.elapse dt
    (u.lc.st = .breakRx ∨ u.lc.st = .breakTx) → u.lc.breakOver = true →
    (6 * u.rate.tau ≤ u.recessive → u.lc.owed = false →
      ∃ t, exec (.linkFreeAfterBreak dt) s = .next t ∧
        Settled { u with lc := { u.lc with
          st := .idle, tick := u.sr.inForce.map (fun a => u.clk.tb + micros a.settings.markPeriod),
          dominant := none, breakEnd := none, breakOver := false } } t) ∧
    (6 * u.rate.tau ≤ u.recessive → u.lc.owed = true →
      ∃ t, exec (.linkFreeAfterBreak dt) s = .next t ∧
        Settled { u with
          axes := u.marksBroken (u.restartedAxes (.pending u.blankTime)),
          al := u.al.raiseWhen u.someTrackLost .axis,
          lc := { u.lc with
            st := .breakTx, tick := none, trans := none, waiting := none, rx := none, reading := none,
            dominant := none, owed := false, breakOver := false,
            breakEnd := some (u.clk.tb + micros (40 * u.rate.tau)) } } t) ∧
    (u.recessive < 6 * u.rate.tau → exec (.linkFreeAfterBreak dt) s = .next u)) ∧
  (∀ s : State,
    (s.recessive = if s.wire.level = .high then min s.wire.age s.wire.own else 0) ∧
    s.edge.wire = { level := if s.wire.level = .high then .low else .high, age := 0, own := s.wire.own } ∧
    (∀ d, s.clk.resetn = true → (s.pass d).wire.level = s.wire.level ∧
      (s.pass d).wire.age = s.wire.age + d.toNat)) ∧
  (∀ (s : State) (d : Time), s.clk.resetn = true →
    let now := s.clk.tb + d
    (∀ e, s.lc.st = .breakTx → s.lc.breakEnd = some e →
      (s.pass d).wire.own = if reached now e then (now - e).toNat else 0) ∧
    (∀ (m : Transaction) (r : Reading) (k : Nat),
      s.lc.st = .sending → s.lc.trans = some m → s.lc.reading = some r → k ≤ 30 →
      let sent := markBits m.unit m.seq
      let n := min r.bits.length 30
      let agrees := r.bits.take 30 = sent.take n
      let x := (now - r.start).toNat
      let drove (i : Nat) := i < k ∧ i ≤ x / s.rate.tau ∧ sent[i]? = some false
      ((agrees ∧ s.wire.level = .high ∧ k = 30) ∨
       (agrees ∧ s.wire.level = .low ∧ n ≤ k ∧ sent[k]? ≠ some false ∧
         ∀ i, n ≤ i → i < k → sent[i]? = some false) ∨
       (r.bits.take k = sent.take k ∧ ∃ v w, sent[k]? = some v ∧ r.bits[k]? = some w ∧ v ≠ w)) →
      (∀ i, drove i → (∀ j, drove j → j ≤ i) → (s.pass d).wire.own = x - (i + 1) * s.rate.tau) ∧
      ((∀ i, ¬ drove i) → (s.pass d).wire.own = x)) ∧
    ((s.lc.st ≠ .sending ∨ s.lc.reading = none) → (s.lc.st ≠ .breakTx ∨ s.lc.breakEnd = none) →
      (s.pass d).wire.own = s.wire.own + d.toNat))

/-- 2,048 bit times of one level: STUCK, every TRACK axis LOST with its record kept; once the wire has been
recessive for six bit times the stuck period ends: every TRACK axis starts again with its expiry set and the
link is IDLE with its timer restarted, or sends the break owed. A command that is not due changes only the time:
the model's choice (log 3). -/
def Obligations.StuckWire : Prop :=
  ∀ (dt : Span) (s : State), let u := s.elapse dt
    let lost (x : Axis) : AxisRec :=
      if u.tracks x then { u.axes.get x with st := .lost } else u.axes.get x
    (∀ d, u.lc.st = .breakRx → u.lc.breakOver = false → u.lc.dominant = some d →
      (2048 * u.rate.tau ≤ d.length → ∃ t, exec (.stuck dt) s = .next t ∧
        Settled { u with
          lc := { u.lc with st := .stuck },
          axes := { focus := lost .focus, iris := lost .iris, zoom := lost .zoom },
          al := (u.al.raise .stuck).raiseWhen u.someTrackKept .axis } t) ∧
      (d.length < 2048 * u.rate.tau → exec (.stuck dt) s = .next u)) ∧
    (u.lc.st = .stuck → 6 * u.rate.tau ≤ u.recessive →
      (u.lc.owed = false → ∃ t, exec (.stuckEnd dt) s = .next t ∧
        Settled { u with
          axes := u.restartedAxes (.until u.blankUntil), al := u.al.raiseWhen u.someTrackLost .axis,
          lc := { u.lc with
            st := .idle, tick := u.sr.inForce.map (fun a => u.clk.tb + micros a.settings.markPeriod),
            dominant := none, breakEnd := none, breakOver := false } } t) ∧
      (u.lc.owed = true → ∃ t, exec (.stuckEnd dt) s = .next t ∧
        Settled { u with
          axes := u.marksBroken (u.restartedAxes (.pending u.blankTime)),
          al := u.al.raiseWhen u.someTrackLost .axis,
          lc := { u.lc with
            st := .breakTx, tick := none, trans := none, waiting := none, rx := none, reading := none,
            dominant := none, owed := false, breakOver := false,
            breakEnd := some (u.clk.tb + micros (40 * u.rate.tau)) } } t)) ∧
    (u.lc.st = .stuck → u.recessive < 6 * u.rate.tau → exec (.stuckEnd dt) s = .next u)

/-- The MARK on AXL. Its 30 bits are LEAD, the header of kind MARK, address and length 1, the sequence, their
CRC-8 and END-OF-DATA, each byte most significant bit first; the three CHECKs that the book works out come out.
While SENDING the part drives dominant exactly in the bit times of its 0 bits, and from the first bit that reads
back different on not at all; in a break it sends, until the break's end; otherwise never. Bits are read at
their middles, counted from the falling edge: on a wire that no other node drives the part reads back what it
sends, and it reads of another node's frame the level of the wire. -/
def Obligations.AxlCarriesTheMark : Prop :=
  (∀ (unit : Nat) (seq : Byte), unit < 8 →
    let byte (b : Byte) : List Bool :=
      [b.getLsbD 7, b.getLsbD 6, b.getLsbD 5, b.getLsbD 4, b.getLsbD 3, b.getLsbD 2, b.getLsbD 1,
       b.getLsbD 0]
    ∃ h : Byte, h.extractLsb' 6 2 = 1 ∧ (h.extractLsb' 3 3).toNat = unit ∧ h.extractLsb' 0 3 = 1 ∧
      markBits unit seq = [false, false, false, true] ++ byte h ++ byte seq ++ byte (crc8 [h, seq]) ++
        [true, true]) ∧
  (crc8 [0x49, 0x05] = 0x2A ∧ crc8 [0x05, 0x00, 0x9C, 0x40, 0x00] = 0xDC ∧ crc8 [0x11, 0x03] = 0x9C) ∧
  (∀ (s : State) (m : Transaction) (r : Reading),
    s.lc.st = .sending → s.lc.trans = some m → s.lc.reading = some r →
    let sent := markBits m.unit m.seq
    (s.wire.level = .high → r.bits.take 30 = sent.take r.bits.length →
      s.drivesAxl = !(sent.getD (s.into r / s.rate.tau) true)) ∧
    (∀ i v w, sent[i]? = some v → r.bits[i]? = some w → v ≠ w →
      s.drivesAxl = true → s.into r / s.rate.tau < i)) ∧
  (∀ s : State,
    (∀ e, s.lc.st = .breakTx → s.lc.breakEnd = some e → s.drivesAxl = !(reached s.clk.tb e)) ∧
    (s.lc.st = .breakTx → s.lc.breakEnd = none → s.drivesAxl = false) ∧
    (s.lc.st ≠ .sending → s.lc.st ≠ .breakTx → s.drivesAxl = false)) ∧
  (∀ (s : State) (m : Transaction) (k : Nat),
    s.clk.resetn = true → s.lc.st = .sending → s.lc.trans = some m → s.wire.level = .high →
    s.lc.reading = some { start := s.clk.tb, bits := [] } → k ≤ 30 →
    (s.pass (micros (k * s.rate.tau))).lc.reading =
      some { start := s.clk.tb, bits := (markBits m.unit m.seq).take k }) ∧
  (∀ (s : State) (r : Reading) (d : Time),
    s.clk.resetn = true → s.lc.st = .receiving → s.lc.reading = some r →
    let x := (s.clk.tb + d - r.start).toNat
    let middles := (2 * x + s.rate.tau) / (2 * s.rate.tau)
    (s.pass d).lc.reading = some { r with
      bits := r.bits ++ List.replicate (min middles 76 - r.bits.length) (s.wire.level == .high) })

/-! ## Memory -/

/-- A disturbed word reads bad parity until it is written: out of the memory clear the word takes the data left
in it with bad parity, and no other word changes but one whose write is granted. -/
def Obligations.WordDisturbedGoesBad : Prop :=
  ∀ (dt : Span) (addr : BitVec 15) (data : Word) (s : State), let u := s.elapse dt
    u.ma.clearHold = false → u.memoryOk →
    ∃ t, exec (.wordDisturbed dt addr data) s = .next t ∧
      Settled { u with mem := memDisturb u.mem addr.toNat data } t ∧
      (memRead (memDisturb u.mem addr.toNat data) addr.toNat).data = data ∧
      (memRead (memDisturb u.mem addr.toNat data) addr.toNat).good = false ∧
      (∀ a, a ≠ addr.toNat → memRead (memDisturb u.mem addr.toNat data) a = memRead u.mem a) ∧
      (∀ w, memRead (memWrite (memDisturb u.mem addr.toNat data) addr.toNat w) addr.toNat =
        { data := w, parity := parityFor w } ∧ (Stored.fresh w).good = true)

/-- No command changes a word of memory but the word disturbed, the clear after RESETn returns high, and the
word of the one write that the arbiter grants at the end of this step: it grants one only when no access was in
flight before, or the command completed it. A write is made at its grant: the model's reading (log 5). -/
def Obligations.OnlyGrantedWritesChangeMemory : Prop :=
  ∀ (c : Instr) (s t : State) (a : Nat), exec c s = .next t →
    (∀ dt, c ≠ .resetnRelease dt) → (∀ dt addr d, c = .wordDisturbed dt addr d → addr.toNat ≠ a) →
    (∀ acc, t.ma.inflight = some acc → (s.ma.inflight = none ∨ ∃ dt, c = .memoryAccessComplete dt) →
      acc.read = none → acc.addr ≠ a) →
    memRead t.mem a = memRead s.mem a

/-! ## What every step keeps -/

/-- Every step keeps ATTN agreeing with CAUSES and ENABLES, and WARN with the stretch count and the part
state. -/
def Obligations.EveryStepKeepsAttnAndWarn : Prop :=
  ∀ s t : State, s.attentionOk → s.warnOk → step s = .next t → t.attentionOk ∧ t.warnOk

/-- Every step keeps the canonical form of memory, and the two holds with CLEARING: no port access is in flight
under the port hold, none at all under the clear hold. -/
def Obligations.EveryStepKeepsMemoryAndHolds : Prop :=
  (∀ s t : State, s.memoryOk → step s = .next t → t.memoryOk) ∧
  (∀ s t : State, s.holdsOk → step s = .next t → t.holdsOk)

/-- Every step keeps the link OFF exactly in CLEARING and HALTED, and a READY profile on a PRESENT mount. -/
def Obligations.EveryStepKeepsLinkAndProfile : Prop :=
  ∀ s t : State, s.linkOk → s.profileOk → step s = .next t → t.linkOk ∧ t.profileOk

/-- Every step keeps each axis record in agreement with its mode, its track rising within its capacity and its
miss count in range. -/
def Obligations.EveryStepKeepsTheAxisRecords : Prop :=
  ∀ s t : State, s.axesOk → step s = .next t → t.axesOk

/-- Every step keeps the settings in force and the pending copy within what the checks accept. LAYOUT detail 4,
against the extent held at the check, is left out. -/
def Obligations.EveryStepKeepsSettingsLegal : Prop :=
  ∀ s t : State, s.settingsOk → step s = .next t → t.settingsOk

/-- While RESETn stays low every step leaves the part in hard reset. That a strobe stays on its inputs is the
model's reading (log 37). Its choices are the empty store and the failed serial 0 (log 10), the count of FRAME
at 0 (log 21), no word on D from a read of TB_LO (log 22), the level of AXL with its times at 0 (log 41), and
the next-release index 0 (log 46). -/
def Obligations.EveryStepKeepsHardReset : Prop :=
  ∀ s t : State, s.resetHeld → step s = .next t → t.resetHeld

/-! ## Correction arithmetic -/

/-- The focus of a band (stage 1), by the focus case of its snapshot: OFF, FIXED, held, and usable with its
flags; and the exposure mean of a usable track: the curve constant before the oldest sample, straight between
samples, along the last two up to the limit after the newest, each value rounded to counts and held in the
24-bit range; the breakpoints in rising time; the trapezoid mean rounded once, inside the range of positions. -/
def Obligations.FocusIsTheExposureMean : Prop :=
  (∀ (p : Snapshot) (ts te : Time),
    let r := computeBand p ts te
    let c := p.settings
    let samples := p.axes.focus.track
    let usable := (p.axes.focus.st = .live ∨ p.axes.focus.st = .stale) ∧ samples ≠ []
    let unused := r.flags.extrapolated = false ∧ r.flags.limited = false ∧ r.flags.early = false ∧
      r.focusUsed = none
    (c.focus.mode = .off → r.pMean = 0 ∧ r.u = c.lockCoord ∧ r.flags.held = false ∧
      r.flags.fixed = false ∧ unused) ∧
    (c.focus.mode = .fixed → r.pMean = 0 ∧ r.u = c.focus.fixedCoord ∧ r.flags.held = false ∧
      r.flags.fixed = true ∧ unused) ∧
    (c.focus.mode = .track → ¬ usable → r.pMean = p.held.pos.getD 0 ∧
      r.u = p.held.u.getD c.lockCoord ∧ r.flags.held = true ∧ r.flags.fixed = false ∧ unused) ∧
    (c.focus.mode = .track → usable →
      let since (x : Sample) : Int := (x.time - ts).toInt
      let w := (te - ts).toInt
      r.pMean = meanFocus (samples.map (fun x => (since x, x.pos.toInt))) c.extrapLimit w ∧
      r.u = (mapPosition c.focus.points r.pMean).1 ∧ r.focusUsed = some (r.pMean, r.u) ∧
      r.flags.held = false ∧ r.flags.fixed = false ∧
      ∀ old new, samples.head? = some old → samples.getLast? = some new →
        (r.flags.early = true ↔ 0 < since old) ∧
        (r.flags.extrapolated = true ↔
          2 ≤ samples.length ∧ since new < w ∧ w ≤ since new + c.extrapLimit) ∧
        (r.flags.limited = true ↔
          since new < w ∧ (samples.length = 1 ∨ since new + c.extrapLimit < w)))) ∧
  (∀ (track : List (Int × Int)) (xmax : Nat) (w : Int), track ≠ [] → 0 < w →
    (track.map Prod.fst).Pairwise (· < ·) → (∀ x ∈ track, -8388608 ≤ x.2 ∧ x.2 ≤ 8388607) →
    let f := focusAt track xmax
    let times := breakpoints track xmax w
    let line (a b : Int × Int) (t q : Int) :=
      RoundsTo (a.2 * (b.1 - a.1) + (b.2 - a.2) * (t - a.1)) (b.1 - a.1) q
    (∀ x t, track.head? = some x → t ≤ x.1 → f t = x.2) ∧
    (∀ x t, track = [x] → f t = x.2) ∧
    (∀ k a b t, track[k]? = some a → track[k + 1]? = some b → a.1 ≤ t → t ≤ b.1 → line a b t (f t)) ∧
    (∀ k a b t, track.length = k + 2 → track[k]? = some a → track[k + 1]? = some b → b.1 < t →
      ∃ q, line a b (min t (b.1 + xmax)) q ∧ f t = max (-8388608) (min 8388607 q)) ∧
    times.Pairwise (· < ·) ∧
    (∀ t, t ∈ times ↔ t = 0 ∨ t = w ∨ (0 < t ∧ t < w ∧ ((∃ x ∈ track, x.1 = t) ∨
      (2 ≤ track.length ∧ ∃ x, track.getLast? = some x ∧ t = x.1 + xmax)))) ∧
    RoundsTo ((times.zip times.tail).map (fun x => (x.2 - x.1) * (f x.1 + f x.2))).sum (2 * w)
      (meanFocus track xmax w) ∧
    -8388608 ≤ meanFocus track xmax w ∧ meanFocus track xmax w ≤ 8388607)

/-- Positions become coordinates (stage 2). A map takes a position between its counts along the straight line of
the segment that encloses it, rounded, and holds one outside them at the nearer end with MAP_EDGE, for rising
and falling counts. Iris and zoom: the fixed coordinate, 0 when OFF, the held coordinate with AUX_HELD, or the
mapped mean of the newest N samples, rounded once. MAP_EDGE and AUX_HELD gather over the maps and axes used. -/
def Obligations.PositionsBecomeCoordinates : Prop :=
  (∀ (points : List (Int × Nat)) (pos : Int), 2 ≤ points.length →
    ((points.map Prod.fst).Pairwise (· < ·) ∨ (points.map Prod.fst).Pairwise (· > ·)) →
    (∀ (k : Nat) (c : Int) (v : Nat) (c' : Int) (v' : Nat),
      points[k]? = some (c, v) → points[k + 1]? = some (c', v') →
      ((c ≤ pos ∧ pos ≤ c') ∨ (c' ≤ pos ∧ pos ≤ c)) →
      ∃ q, RoundsTo (((v' : Int) - v) * (pos - c)) (c' - c) q ∧
        ((mapPosition points pos).1 : Int) = v + q ∧ (mapPosition points pos).2 = false) ∧
    (∀ (c : Int) (v : Nat) (c' : Int) (v' : Nat),
      points.head? = some (c, v) → points.getLast? = some (c', v') →
      ((c < c' ∧ pos < c) ∨ (c' < c ∧ c < pos) → mapPosition points pos = (v, true)) ∧
      ((c < c' ∧ c' < pos) ∨ (c' < c ∧ pos < c') → mapPosition points pos = (v', true)))) ∧
  (∀ (p : Snapshot) (ts te : Time),
    let r := computeBand p ts te
    let live (x : AxisRec) := x.st = .live ∨ x.st = .stale
    let gives (cfg : AxisSettings) (x : AxisRec) (held : Option Nat) (v : Nat) (used : Option Nat)
        (edge aux : Bool) :=
      (cfg.mode = .fixed → v = cfg.fixedCoord ∧ used = none ∧ edge = false ∧ aux = false) ∧
      (cfg.mode = .off → v = 0 ∧ used = none ∧ edge = false ∧ aux = false) ∧
      (cfg.mode = .track → ¬ live x → v = held.getD 0 ∧ used = none ∧ edge = false ∧ aux = true) ∧
      (cfg.mode = .track → live x → x.track ≠ [] → 1 ≤ cfg.average →
        let newest := x.track.drop (x.track.length - cfg.average)
        ∃ m, RoundsTo (newest.map (·.pos.toInt)).sum newest.length m ∧
          mapPosition cfg.points m = (v, edge) ∧ used = some v ∧ aux = false)
    ∃ fEdge iEdge zEdge iHeld zHeld,
      gives p.settings.iris p.axes.iris p.held.a r.a r.irisUsed iEdge iHeld ∧
      gives p.settings.zoom p.axes.zoom p.held.z r.z r.zoomUsed zEdge zHeld ∧
      (r.focusUsed = none → fEdge = false) ∧
      (r.focusUsed ≠ none → mapPosition p.settings.focus.points r.pMean = (r.u, fEdge)) ∧
      r.flags.mapEdge = (fEdge || iEdge || zEdge) ∧ r.flags.auxHeld = (iHeld || zHeld))

/-- Cells, breathing and shading (stages 3 to 5). The cell of a coordinate is the last but the top whose node is
not above it, its fraction truncated. A breathing value is the mean of four nodes and a shading coefficient of
eight, by their weights, rounded once. A band of a READY profile on a PRESENT mount has its scales by HEADROOM
and the reference at the lock focus, its shifts against that reference, its coefficients by the strength and
under the gain ceiling, each held at its limit with its flag; what is switched off is unity, no shift, no
gain. -/
def Obligations.CellsBreathingAndShading : Prop :=
  (∀ (xs : List Nat) (x : Nat), xs.Pairwise (· < ·) → xs.head? = some 0 → xs.getLast? = some 65535 →
    x ≤ 65535 →
    ∃ i phi lo hi, cell xs x = (i, phi) ∧ xs[i]? = some lo ∧ xs[i + 1]? = some hi ∧ lo ≤ x ∧
      (x < hi ∨ (x = 65535 ∧ i + 2 = xs.length)) ∧
      phi * (hi - lo) ≤ (x - lo) * 65536 ∧ (x - lo) * 65536 < (phi + 1) * (hi - lo) ∧
      phi ≤ 65536 ∧ (phi = 65536 ↔ x = 65535)) ∧
  (∀ x, cell [0] x = (0, 0)) ∧
  (∀ (p : List Word) (k n u z a : Nat),
    let word (i : Nat) := p.getD i 0
    let lists := 7 + profNz p + profNub p + profNuv p + profNa p
    let i := cell (profBreathingFocus p) u
    let v := cell (profShadingFocus p) u
    let j := cell (profZoom p) z
    let m := cell (profIris p) a
    let weights (c : Nat × Nat) : List (Nat × Int) := [(c.1, 65536 - (c.2 : Int)), (c.1 + 1, (c.2 : Int))]
    let breathing (x y : Nat × Int) := x.2 * y.2 * breathingNode p (y.1 * profNub p + x.1) k
    let shading (x y w : Nat × Int) :=
      x.2 * y.2 * w.2 * shadingNode p ((w.1 * profNz p + y.1) * profNuv p + x.1) k
    breathingNode p n k = (word (lists + 4 * n + k)).toInt ∧
    shadingNode p n k = (word (lists + 4 * profNub p * profNz p + 3 * n + k)).toInt ∧
    RoundsTo ((weights j).map (fun y => ((weights i).map (fun x => breathing x y)).sum)).sum (2 ^ 32)
      (breathingAt p k u z) ∧
    RoundsTo ((weights m).map (fun w => ((weights j).map (fun y =>
      ((weights v).map (fun x => shading x y w)).sum)).sum)).sum (2 ^ 48) (shadingAt p k u z a)) ∧
  (∀ (p : Snapshot) (ts te : Time), p.profile = .ready → p.mount = .present →
    let r := computeBand p ts te
    let c := p.settings
    let at' (k u : Nat) := breathingAt p.store k u r.z
    let held (lo hi x : Int) := max lo (min hi x)
    let shift (k : Nat) : Int := at' k c.lockCoord - at' k r.u
    let e (x y w : Int) := x + y + w
    (c.breathingOn = false → r.sx = 4194304 ∧ r.sy = 4194304 ∧ r.shx = 0 ∧ r.shy = 0 ∧
      r.flags.scaleLimit = false ∧ r.flags.shiftLimit = false) ∧
    (c.breathingOn = true → 4194304 ≤ c.scaleMax → 0 < at' 0 r.u → 0 < at' 1 r.u →
      (∃ x y, RoundsTo (c.headroom * at' 0 c.lockCoord * 256) (at' 0 r.u) x ∧
        RoundsTo (c.headroom * at' 1 c.lockCoord * 256) (at' 1 r.u) y ∧
        r.sx = held 4194304 c.scaleMax x ∧ r.sy = held 4194304 c.scaleMax y ∧
        (r.flags.scaleLimit = true ↔ r.sx ≠ x ∨ r.sy ≠ y)) ∧
      r.shx = held (-c.shiftMax) c.shiftMax (shift 2) ∧
      r.shy = held (-c.shiftMax) c.shiftMax (shift 3) ∧
      (r.flags.shiftLimit = true ↔ r.shx ≠ shift 2 ∨ r.shy ≠ shift 3)) ∧
    (c.shadingOn = false ∨ c.shadingStrength = 0 →
      r.k1 = 0 ∧ r.k2 = 0 ∧ r.k3 = 0 ∧ r.flags.gainLimit = false) ∧
    (c.shadingOn = true → c.shadingStrength ≠ 0 → 4096 ≤ c.gainMax →
      ∃ x y w,
        let scaled (k : Nat) (q : Int) :=
          RoundsTo (shadingAt p.store k r.u r.z r.a * c.shadingStrength) 256 q
        let room : Int := c.gainMax - 4096
        let floored (k q : Int) := k * e x y w ≤ q * room ∧ q * room < (k + 1) * e x y w
        scaled 0 x ∧ scaled 1 y ∧ scaled 2 w ∧
        (e x y w ≤ room → r.k1 = x ∧ r.k2 = y ∧ r.k3 = w ∧ r.flags.gainLimit = false) ∧
        (room < e x y w → floored r.k1 x ∧ floored r.k2 y ∧ floored r.k3 w ∧
          r.flags.gainLimit = true)))

/-- Every band's record keeps its bounds: SX and SY from unity to SCALE_MAX, SHX and SHY within SHIFT_MAX, the
corner gain at most GAIN_MAX; an identity band, and no other, is flagged so and carries unity, no shift and no
gain. A band is DEGRADED exactly when it is LIMITED, EARLY, HELD or an identity band, and LATE is left to the
Record Writer. -/
def Obligations.BandRecordBounds : Prop :=
  ∀ (p : Snapshot) (ts te : Time),
    let r := computeBand p ts te
    (4194304 ≤ p.settings.scaleMax → 4096 ≤ p.settings.gainMax →
      4194304 ≤ r.sx ∧ r.sx ≤ p.settings.scaleMax ∧ 4194304 ≤ r.sy ∧ r.sy ≤ p.settings.scaleMax ∧
      -(p.settings.shiftMax : Int) ≤ r.shx ∧ r.shx ≤ p.settings.shiftMax ∧
      -(p.settings.shiftMax : Int) ≤ r.shy ∧ r.shy ≤ p.settings.shiftMax ∧
      4096 + r.k1 + r.k2 + r.k3 ≤ p.settings.gainMax) ∧
    (r.flags.identity = true ↔ p.profile ≠ .ready ∨ p.mount = .absent) ∧
    (r.flags.identity = true →
      r.sx = 4194304 ∧ r.sy = 4194304 ∧ r.shx = 0 ∧ r.shy = 0 ∧ r.k1 = 0 ∧ r.k2 = 0 ∧ r.k3 = 0 ∧
      r.flags.scaleLimit = false ∧ r.flags.shiftLimit = false ∧ r.flags.gainLimit = false) ∧
    (r.flags.degraded = true ↔ r.flags.limited = true ∨ r.flags.early = true ∨ r.flags.held = true ∨
      r.flags.identity = true) ∧
    r.flags.late = false
end

