-- ==== Sys2Proof/Laws/Memory.lean ====
section
/-! SUPPORT. Reads after writes, and the canonical form of memory. -/

namespace Sys2Proof.Machine

theorem memRead_memPut_other (m : Memory) (a b : Nat) (v : Stored) (h : b ≠ a) :
    memRead (memPut m a v) b = memRead m b := by
  induction m with
  | nil => by_cases hv : v = Stored.zero <;> simp [memPut, memRead, hv, Ne.symm h]
  | cons e m ih =>
    obtain ⟨k, w⟩ := e
    simp only [memPut]
    split
    · split <;> simp [memRead, Ne.symm h]
    · split
      · subst_vars; split <;> simp [memRead, Ne.symm h]
      · simp [memRead, ih]

theorem memWfFrom_mono {lo lo' : Nat} (m : Memory) (h : memWfFrom lo' m = true) (hl : lo ≤ lo') :
    memWfFrom lo m = true := by
  cases m with
  | nil => rfl
  | cons e m =>
    obtain ⟨k, v⟩ := e
    simp only [memWfFrom, Bool.and_eq_true, decide_eq_true_eq] at h ⊢
    exact ⟨⟨⟨by omega, h.1.1.2⟩, h.1.2⟩, h.2⟩

theorem memRead_below {lo : Nat} (m : Memory) (h : memWfFrom lo m = true) (a : Nat) (ha : a < lo) :
    memRead m a = Stored.zero := by
  induction m generalizing lo with
  | nil => rfl
  | cons e m ih =>
    obtain ⟨k, v⟩ := e
    simp only [memWfFrom, Bool.and_eq_true, decide_eq_true_eq] at h
    simp only [memRead]
    rw [if_neg (by omega)]
    exact ih h.2 (by omega)

theorem memWfFrom_memPut {lo : Nat} (m : Memory) (a : Nat) (v : Stored) (h : memWfFrom lo m = true)
    (hl : lo ≤ a) (ha : a < Config.memoryWords) : memWfFrom lo (memPut m a v) = true := by
  induction m generalizing lo with
  | nil => by_cases hv : v = Stored.zero <;> simp [memPut, memWfFrom, hv, hl, ha]
  | cons e m ih =>
    obtain ⟨k, w⟩ := e
    have h0 := h
    simp only [memWfFrom, Bool.and_eq_true, decide_eq_true_eq, bne_iff_ne] at h
    obtain ⟨⟨⟨h1, h2⟩, h3⟩, h4⟩ := h
    simp only [memPut]
    split
    · split
      · exact h0
      · simp [memWfFrom, *]
    · split
      · split
        · exact memWfFrom_mono m h4 (by omega)
        · subst_vars; simp [memWfFrom, *]
      · simp only [memWfFrom, Bool.and_eq_true, decide_eq_true_eq, bne_iff_ne]
        exact ⟨⟨⟨h1, h2⟩, h3⟩, ih h4 (by omega)⟩

theorem memRead_memPut_same {lo : Nat} (m : Memory) (a : Nat) (v : Stored)
    (h : memWfFrom lo m = true) : memRead (memPut m a v) a = v := by
  induction m generalizing lo with
  | nil => by_cases hv : v = Stored.zero <;> simp [memPut, memRead, hv]
  | cons e m ih =>
    obtain ⟨k, w⟩ := e
    have h0 := h
    simp only [memWfFrom, Bool.and_eq_true, decide_eq_true_eq, bne_iff_ne] at h
    obtain ⟨⟨⟨h1, h2⟩, h3⟩, h4⟩ := h
    simp only [memPut]
    split
    · split
      · subst_vars
        have : memRead m a = Stored.zero := memRead_below m h4 a (by omega)
        simp only [memRead]
        rw [if_neg (by omega), this]
      · simp [memRead]
    · split
      · subst_vars
        split
        · subst_vars; exact memRead_below m h4 _ (by omega)
        · simp [memRead]
      · simp only [memRead]
        rw [if_neg (by omega)]
        exact ih h4

/-! Every memory operation keeps the canonical form. -/

theorem memWf_memWrite (m : Memory) (a : Nat) (w : Word) (h : memWf m = true) :
    memWf (memWrite m a w) = true := by
  unfold memWrite
  split
  · exact memWfFrom_memPut m a _ h (Nat.zero_le _) ‹_›
  · exact h

theorem memWf_memDisturb (m : Memory) (a : Nat) (w : Word) (h : memWf m = true) :
    memWf (memDisturb m a w) = true := by
  unfold memDisturb
  split
  · exact memWfFrom_memPut m a _ h (Nat.zero_le _) ‹_›
  · exact h

theorem memRead_memWrite_other (m : Memory) (a b : Nat) (w : Word) (h : b ≠ a) :
    memRead (memWrite m a w) b = memRead m b := by
  unfold memWrite
  split
  · exact memRead_memPut_other m a b _ h
  · rfl

theorem memRead_memDisturb_other (m : Memory) (a b : Nat) (w : Word) (h : b ≠ a) :
    memRead (memDisturb m a w) b = memRead m b := by
  unfold memDisturb
  split
  · exact memRead_memPut_other m a b _ h
  · rfl

theorem memRead_memWrite_same (m : Memory) (a : Nat) (w : Word) (h : memWf m = true)
    (ha : a < Config.memoryWords) : memRead (memWrite m a w) a = Stored.fresh w := by
  unfold memWrite
  rw [if_pos ha]
  exact memRead_memPut_same m a _ h

theorem memRead_memDisturb_same (m : Memory) (a : Nat) (w : Word) (h : memWf m = true)
    (ha : a < Config.memoryWords) : memRead (memDisturb m a w) a = Stored.disturbed w := by
  unfold memDisturb
  rw [if_pos ha]
  exact memRead_memPut_same m a _ h

@[simp] theorem Stored.fresh_good (w : Word) : (Stored.fresh w).good = true := by simp [Stored.fresh, Stored.good]

@[simp] theorem Stored.disturbed_bad (w : Word) : (Stored.disturbed w).good = false := by
  simp [Stored.disturbed, Stored.good]

end Sys2Proof.Machine
end

