-- ==== Sys2Proof/Laws/State.lean ====
section
/-! SUPPORT. One lemma per field per named update of State, and per field of what the shared operations on one
component leave. -/

namespace Sys2Proof.Machine

@[simp] theorem State.withPending_pending (s : State) (x : List Instr) : (s.withPending x).pending = x := rfl
@[simp] theorem State.withPending_clk (s : State) (x : List Instr) : (s.withPending x).clk = s.clk := rfl
@[simp] theorem State.withPending_ft (s : State) (x : List Instr) : (s.withPending x).ft = s.ft := rfl
@[simp] theorem State.withPending_be (s : State) (x : List Instr) : (s.withPending x).be = s.be := rfl
@[simp] theorem State.withPending_axes (s : State) (x : List Instr) : (s.withPending x).axes = s.axes := rfl
@[simp] theorem State.withPending_lc (s : State) (x : List Instr) : (s.withPending x).lc = s.lc := rfl
@[simp] theorem State.withPending_ms (s : State) (x : List Instr) : (s.withPending x).ms = s.ms := rfl
@[simp] theorem State.withPending_pl (s : State) (x : List Instr) : (s.withPending x).pl = s.pl := rfl
@[simp] theorem State.withPending_sr (s : State) (x : List Instr) : (s.withPending x).sr = s.sr := rfl
@[simp] theorem State.withPending_rw (s : State) (x : List Instr) : (s.withPending x).rw = s.rw := rfl
@[simp] theorem State.withPending_mem (s : State) (x : List Instr) : (s.withPending x).mem = s.mem := rfl
@[simp] theorem State.withPending_ma (s : State) (x : List Instr) : (s.withPending x).ma = s.ma := rfl
@[simp] theorem State.withPending_sp (s : State) (x : List Instr) : (s.withPending x).sp = s.sp := rfl
@[simp] theorem State.withPending_al (s : State) (x : List Instr) : (s.withPending x).al = s.al := rfl
@[simp] theorem State.withPending_wire (s : State) (x : List Instr) : (s.withPending x).wire = s.wire := rfl
@[simp] theorem State.withPending_fi (s : State) (x : List Instr) : (s.withPending x).fi = s.fi := rfl

@[simp] theorem State.withClk_pending (s : State) (x : Clock) : (s.withClk x).pending = s.pending := rfl
@[simp] theorem State.withClk_clk (s : State) (x : Clock) : (s.withClk x).clk = x := rfl
@[simp] theorem State.withClk_ft (s : State) (x : Clock) : (s.withClk x).ft = s.ft := rfl
@[simp] theorem State.withClk_be (s : State) (x : Clock) : (s.withClk x).be = s.be := rfl
@[simp] theorem State.withClk_axes (s : State) (x : Clock) : (s.withClk x).axes = s.axes := rfl
@[simp] theorem State.withClk_lc (s : State) (x : Clock) : (s.withClk x).lc = s.lc := rfl
@[simp] theorem State.withClk_ms (s : State) (x : Clock) : (s.withClk x).ms = s.ms := rfl
@[simp] theorem State.withClk_pl (s : State) (x : Clock) : (s.withClk x).pl = s.pl := rfl
@[simp] theorem State.withClk_sr (s : State) (x : Clock) : (s.withClk x).sr = s.sr := rfl
@[simp] theorem State.withClk_rw (s : State) (x : Clock) : (s.withClk x).rw = s.rw := rfl
@[simp] theorem State.withClk_mem (s : State) (x : Clock) : (s.withClk x).mem = s.mem := rfl
@[simp] theorem State.withClk_ma (s : State) (x : Clock) : (s.withClk x).ma = s.ma := rfl
@[simp] theorem State.withClk_sp (s : State) (x : Clock) : (s.withClk x).sp = s.sp := rfl
@[simp] theorem State.withClk_al (s : State) (x : Clock) : (s.withClk x).al = s.al := rfl
@[simp] theorem State.withClk_wire (s : State) (x : Clock) : (s.withClk x).wire = s.wire := rfl
@[simp] theorem State.withClk_fi (s : State) (x : Clock) : (s.withClk x).fi = s.fi := rfl

@[simp] theorem State.withFt_pending (s : State) (x : FrameTimer) : (s.withFt x).pending = s.pending := rfl
@[simp] theorem State.withFt_clk (s : State) (x : FrameTimer) : (s.withFt x).clk = s.clk := rfl
@[simp] theorem State.withFt_ft (s : State) (x : FrameTimer) : (s.withFt x).ft = x := rfl
@[simp] theorem State.withFt_be (s : State) (x : FrameTimer) : (s.withFt x).be = s.be := rfl
@[simp] theorem State.withFt_axes (s : State) (x : FrameTimer) : (s.withFt x).axes = s.axes := rfl
@[simp] theorem State.withFt_lc (s : State) (x : FrameTimer) : (s.withFt x).lc = s.lc := rfl
@[simp] theorem State.withFt_ms (s : State) (x : FrameTimer) : (s.withFt x).ms = s.ms := rfl
@[simp] theorem State.withFt_pl (s : State) (x : FrameTimer) : (s.withFt x).pl = s.pl := rfl
@[simp] theorem State.withFt_sr (s : State) (x : FrameTimer) : (s.withFt x).sr = s.sr := rfl
@[simp] theorem State.withFt_rw (s : State) (x : FrameTimer) : (s.withFt x).rw = s.rw := rfl
@[simp] theorem State.withFt_mem (s : State) (x : FrameTimer) : (s.withFt x).mem = s.mem := rfl
@[simp] theorem State.withFt_ma (s : State) (x : FrameTimer) : (s.withFt x).ma = s.ma := rfl
@[simp] theorem State.withFt_sp (s : State) (x : FrameTimer) : (s.withFt x).sp = s.sp := rfl
@[simp] theorem State.withFt_al (s : State) (x : FrameTimer) : (s.withFt x).al = s.al := rfl
@[simp] theorem State.withFt_wire (s : State) (x : FrameTimer) : (s.withFt x).wire = s.wire := rfl
@[simp] theorem State.withFt_fi (s : State) (x : FrameTimer) : (s.withFt x).fi = s.fi := rfl

@[simp] theorem State.withBe_pending (s : State) (x : BandEngine) : (s.withBe x).pending = s.pending := rfl
@[simp] theorem State.withBe_clk (s : State) (x : BandEngine) : (s.withBe x).clk = s.clk := rfl
@[simp] theorem State.withBe_ft (s : State) (x : BandEngine) : (s.withBe x).ft = s.ft := rfl
@[simp] theorem State.withBe_be (s : State) (x : BandEngine) : (s.withBe x).be = x := rfl
@[simp] theorem State.withBe_axes (s : State) (x : BandEngine) : (s.withBe x).axes = s.axes := rfl
@[simp] theorem State.withBe_lc (s : State) (x : BandEngine) : (s.withBe x).lc = s.lc := rfl
@[simp] theorem State.withBe_ms (s : State) (x : BandEngine) : (s.withBe x).ms = s.ms := rfl
@[simp] theorem State.withBe_pl (s : State) (x : BandEngine) : (s.withBe x).pl = s.pl := rfl
@[simp] theorem State.withBe_sr (s : State) (x : BandEngine) : (s.withBe x).sr = s.sr := rfl
@[simp] theorem State.withBe_rw (s : State) (x : BandEngine) : (s.withBe x).rw = s.rw := rfl
@[simp] theorem State.withBe_mem (s : State) (x : BandEngine) : (s.withBe x).mem = s.mem := rfl
@[simp] theorem State.withBe_ma (s : State) (x : BandEngine) : (s.withBe x).ma = s.ma := rfl
@[simp] theorem State.withBe_sp (s : State) (x : BandEngine) : (s.withBe x).sp = s.sp := rfl
@[simp] theorem State.withBe_al (s : State) (x : BandEngine) : (s.withBe x).al = s.al := rfl
@[simp] theorem State.withBe_wire (s : State) (x : BandEngine) : (s.withBe x).wire = s.wire := rfl
@[simp] theorem State.withBe_fi (s : State) (x : BandEngine) : (s.withBe x).fi = s.fi := rfl

@[simp] theorem State.withAxes_pending (s : State) (x : Axes) : (s.withAxes x).pending = s.pending := rfl
@[simp] theorem State.withAxes_clk (s : State) (x : Axes) : (s.withAxes x).clk = s.clk := rfl
@[simp] theorem State.withAxes_ft (s : State) (x : Axes) : (s.withAxes x).ft = s.ft := rfl
@[simp] theorem State.withAxes_be (s : State) (x : Axes) : (s.withAxes x).be = s.be := rfl
@[simp] theorem State.withAxes_axes (s : State) (x : Axes) : (s.withAxes x).axes = x := rfl
@[simp] theorem State.withAxes_lc (s : State) (x : Axes) : (s.withAxes x).lc = s.lc := rfl
@[simp] theorem State.withAxes_ms (s : State) (x : Axes) : (s.withAxes x).ms = s.ms := rfl
@[simp] theorem State.withAxes_pl (s : State) (x : Axes) : (s.withAxes x).pl = s.pl := rfl
@[simp] theorem State.withAxes_sr (s : State) (x : Axes) : (s.withAxes x).sr = s.sr := rfl
@[simp] theorem State.withAxes_rw (s : State) (x : Axes) : (s.withAxes x).rw = s.rw := rfl
@[simp] theorem State.withAxes_mem (s : State) (x : Axes) : (s.withAxes x).mem = s.mem := rfl
@[simp] theorem State.withAxes_ma (s : State) (x : Axes) : (s.withAxes x).ma = s.ma := rfl
@[simp] theorem State.withAxes_sp (s : State) (x : Axes) : (s.withAxes x).sp = s.sp := rfl
@[simp] theorem State.withAxes_al (s : State) (x : Axes) : (s.withAxes x).al = s.al := rfl
@[simp] theorem State.withAxes_wire (s : State) (x : Axes) : (s.withAxes x).wire = s.wire := rfl
@[simp] theorem State.withAxes_fi (s : State) (x : Axes) : (s.withAxes x).fi = s.fi := rfl

@[simp] theorem State.withLc_pending (s : State) (x : Link) : (s.withLc x).pending = s.pending := rfl
@[simp] theorem State.withLc_clk (s : State) (x : Link) : (s.withLc x).clk = s.clk := rfl
@[simp] theorem State.withLc_ft (s : State) (x : Link) : (s.withLc x).ft = s.ft := rfl
@[simp] theorem State.withLc_be (s : State) (x : Link) : (s.withLc x).be = s.be := rfl
@[simp] theorem State.withLc_axes (s : State) (x : Link) : (s.withLc x).axes = s.axes := rfl
@[simp] theorem State.withLc_lc (s : State) (x : Link) : (s.withLc x).lc = x := rfl
@[simp] theorem State.withLc_ms (s : State) (x : Link) : (s.withLc x).ms = s.ms := rfl
@[simp] theorem State.withLc_pl (s : State) (x : Link) : (s.withLc x).pl = s.pl := rfl
@[simp] theorem State.withLc_sr (s : State) (x : Link) : (s.withLc x).sr = s.sr := rfl
@[simp] theorem State.withLc_rw (s : State) (x : Link) : (s.withLc x).rw = s.rw := rfl
@[simp] theorem State.withLc_mem (s : State) (x : Link) : (s.withLc x).mem = s.mem := rfl
@[simp] theorem State.withLc_ma (s : State) (x : Link) : (s.withLc x).ma = s.ma := rfl
@[simp] theorem State.withLc_sp (s : State) (x : Link) : (s.withLc x).sp = s.sp := rfl
@[simp] theorem State.withLc_al (s : State) (x : Link) : (s.withLc x).al = s.al := rfl
@[simp] theorem State.withLc_wire (s : State) (x : Link) : (s.withLc x).wire = s.wire := rfl
@[simp] theorem State.withLc_fi (s : State) (x : Link) : (s.withLc x).fi = s.fi := rfl

@[simp] theorem State.withMs_pending (s : State) (x : MountSensor) : (s.withMs x).pending = s.pending := rfl
@[simp] theorem State.withMs_clk (s : State) (x : MountSensor) : (s.withMs x).clk = s.clk := rfl
@[simp] theorem State.withMs_ft (s : State) (x : MountSensor) : (s.withMs x).ft = s.ft := rfl
@[simp] theorem State.withMs_be (s : State) (x : MountSensor) : (s.withMs x).be = s.be := rfl
@[simp] theorem State.withMs_axes (s : State) (x : MountSensor) : (s.withMs x).axes = s.axes := rfl
@[simp] theorem State.withMs_lc (s : State) (x : MountSensor) : (s.withMs x).lc = s.lc := rfl
@[simp] theorem State.withMs_ms (s : State) (x : MountSensor) : (s.withMs x).ms = x := rfl
@[simp] theorem State.withMs_pl (s : State) (x : MountSensor) : (s.withMs x).pl = s.pl := rfl
@[simp] theorem State.withMs_sr (s : State) (x : MountSensor) : (s.withMs x).sr = s.sr := rfl
@[simp] theorem State.withMs_rw (s : State) (x : MountSensor) : (s.withMs x).rw = s.rw := rfl
@[simp] theorem State.withMs_mem (s : State) (x : MountSensor) : (s.withMs x).mem = s.mem := rfl
@[simp] theorem State.withMs_ma (s : State) (x : MountSensor) : (s.withMs x).ma = s.ma := rfl
@[simp] theorem State.withMs_sp (s : State) (x : MountSensor) : (s.withMs x).sp = s.sp := rfl
@[simp] theorem State.withMs_al (s : State) (x : MountSensor) : (s.withMs x).al = s.al := rfl
@[simp] theorem State.withMs_wire (s : State) (x : MountSensor) : (s.withMs x).wire = s.wire := rfl
@[simp] theorem State.withMs_fi (s : State) (x : MountSensor) : (s.withMs x).fi = s.fi := rfl

@[simp] theorem State.withPl_pending (s : State) (x : ProfileLoader) : (s.withPl x).pending = s.pending := rfl
@[simp] theorem State.withPl_clk (s : State) (x : ProfileLoader) : (s.withPl x).clk = s.clk := rfl
@[simp] theorem State.withPl_ft (s : State) (x : ProfileLoader) : (s.withPl x).ft = s.ft := rfl
@[simp] theorem State.withPl_be (s : State) (x : ProfileLoader) : (s.withPl x).be = s.be := rfl
@[simp] theorem State.withPl_axes (s : State) (x : ProfileLoader) : (s.withPl x).axes = s.axes := rfl
@[simp] theorem State.withPl_lc (s : State) (x : ProfileLoader) : (s.withPl x).lc = s.lc := rfl
@[simp] theorem State.withPl_ms (s : State) (x : ProfileLoader) : (s.withPl x).ms = s.ms := rfl
@[simp] theorem State.withPl_pl (s : State) (x : ProfileLoader) : (s.withPl x).pl = x := rfl
@[simp] theorem State.withPl_sr (s : State) (x : ProfileLoader) : (s.withPl x).sr = s.sr := rfl
@[simp] theorem State.withPl_rw (s : State) (x : ProfileLoader) : (s.withPl x).rw = s.rw := rfl
@[simp] theorem State.withPl_mem (s : State) (x : ProfileLoader) : (s.withPl x).mem = s.mem := rfl
@[simp] theorem State.withPl_ma (s : State) (x : ProfileLoader) : (s.withPl x).ma = s.ma := rfl
@[simp] theorem State.withPl_sp (s : State) (x : ProfileLoader) : (s.withPl x).sp = s.sp := rfl
@[simp] theorem State.withPl_al (s : State) (x : ProfileLoader) : (s.withPl x).al = s.al := rfl
@[simp] theorem State.withPl_wire (s : State) (x : ProfileLoader) : (s.withPl x).wire = s.wire := rfl
@[simp] theorem State.withPl_fi (s : State) (x : ProfileLoader) : (s.withPl x).fi = s.fi := rfl

@[simp] theorem State.withSr_pending (s : State) (x : SettingsReader) : (s.withSr x).pending = s.pending := rfl
@[simp] theorem State.withSr_clk (s : State) (x : SettingsReader) : (s.withSr x).clk = s.clk := rfl
@[simp] theorem State.withSr_ft (s : State) (x : SettingsReader) : (s.withSr x).ft = s.ft := rfl
@[simp] theorem State.withSr_be (s : State) (x : SettingsReader) : (s.withSr x).be = s.be := rfl
@[simp] theorem State.withSr_axes (s : State) (x : SettingsReader) : (s.withSr x).axes = s.axes := rfl
@[simp] theorem State.withSr_lc (s : State) (x : SettingsReader) : (s.withSr x).lc = s.lc := rfl
@[simp] theorem State.withSr_ms (s : State) (x : SettingsReader) : (s.withSr x).ms = s.ms := rfl
@[simp] theorem State.withSr_pl (s : State) (x : SettingsReader) : (s.withSr x).pl = s.pl := rfl
@[simp] theorem State.withSr_sr (s : State) (x : SettingsReader) : (s.withSr x).sr = x := rfl
@[simp] theorem State.withSr_rw (s : State) (x : SettingsReader) : (s.withSr x).rw = s.rw := rfl
@[simp] theorem State.withSr_mem (s : State) (x : SettingsReader) : (s.withSr x).mem = s.mem := rfl
@[simp] theorem State.withSr_ma (s : State) (x : SettingsReader) : (s.withSr x).ma = s.ma := rfl
@[simp] theorem State.withSr_sp (s : State) (x : SettingsReader) : (s.withSr x).sp = s.sp := rfl
@[simp] theorem State.withSr_al (s : State) (x : SettingsReader) : (s.withSr x).al = s.al := rfl
@[simp] theorem State.withSr_wire (s : State) (x : SettingsReader) : (s.withSr x).wire = s.wire := rfl
@[simp] theorem State.withSr_fi (s : State) (x : SettingsReader) : (s.withSr x).fi = s.fi := rfl

@[simp] theorem State.withRw_pending (s : State) (x : RecordWriter) : (s.withRw x).pending = s.pending := rfl
@[simp] theorem State.withRw_clk (s : State) (x : RecordWriter) : (s.withRw x).clk = s.clk := rfl
@[simp] theorem State.withRw_ft (s : State) (x : RecordWriter) : (s.withRw x).ft = s.ft := rfl
@[simp] theorem State.withRw_be (s : State) (x : RecordWriter) : (s.withRw x).be = s.be := rfl
@[simp] theorem State.withRw_axes (s : State) (x : RecordWriter) : (s.withRw x).axes = s.axes := rfl
@[simp] theorem State.withRw_lc (s : State) (x : RecordWriter) : (s.withRw x).lc = s.lc := rfl
@[simp] theorem State.withRw_ms (s : State) (x : RecordWriter) : (s.withRw x).ms = s.ms := rfl
@[simp] theorem State.withRw_pl (s : State) (x : RecordWriter) : (s.withRw x).pl = s.pl := rfl
@[simp] theorem State.withRw_sr (s : State) (x : RecordWriter) : (s.withRw x).sr = s.sr := rfl
@[simp] theorem State.withRw_rw (s : State) (x : RecordWriter) : (s.withRw x).rw = x := rfl
@[simp] theorem State.withRw_mem (s : State) (x : RecordWriter) : (s.withRw x).mem = s.mem := rfl
@[simp] theorem State.withRw_ma (s : State) (x : RecordWriter) : (s.withRw x).ma = s.ma := rfl
@[simp] theorem State.withRw_sp (s : State) (x : RecordWriter) : (s.withRw x).sp = s.sp := rfl
@[simp] theorem State.withRw_al (s : State) (x : RecordWriter) : (s.withRw x).al = s.al := rfl
@[simp] theorem State.withRw_wire (s : State) (x : RecordWriter) : (s.withRw x).wire = s.wire := rfl
@[simp] theorem State.withRw_fi (s : State) (x : RecordWriter) : (s.withRw x).fi = s.fi := rfl

@[simp] theorem State.withMem_pending (s : State) (x : Memory) : (s.withMem x).pending = s.pending := rfl
@[simp] theorem State.withMem_clk (s : State) (x : Memory) : (s.withMem x).clk = s.clk := rfl
@[simp] theorem State.withMem_ft (s : State) (x : Memory) : (s.withMem x).ft = s.ft := rfl
@[simp] theorem State.withMem_be (s : State) (x : Memory) : (s.withMem x).be = s.be := rfl
@[simp] theorem State.withMem_axes (s : State) (x : Memory) : (s.withMem x).axes = s.axes := rfl
@[simp] theorem State.withMem_lc (s : State) (x : Memory) : (s.withMem x).lc = s.lc := rfl
@[simp] theorem State.withMem_ms (s : State) (x : Memory) : (s.withMem x).ms = s.ms := rfl
@[simp] theorem State.withMem_pl (s : State) (x : Memory) : (s.withMem x).pl = s.pl := rfl
@[simp] theorem State.withMem_sr (s : State) (x : Memory) : (s.withMem x).sr = s.sr := rfl
@[simp] theorem State.withMem_rw (s : State) (x : Memory) : (s.withMem x).rw = s.rw := rfl
@[simp] theorem State.withMem_mem (s : State) (x : Memory) : (s.withMem x).mem = x := rfl
@[simp] theorem State.withMem_ma (s : State) (x : Memory) : (s.withMem x).ma = s.ma := rfl
@[simp] theorem State.withMem_sp (s : State) (x : Memory) : (s.withMem x).sp = s.sp := rfl
@[simp] theorem State.withMem_al (s : State) (x : Memory) : (s.withMem x).al = s.al := rfl
@[simp] theorem State.withMem_wire (s : State) (x : Memory) : (s.withMem x).wire = s.wire := rfl
@[simp] theorem State.withMem_fi (s : State) (x : Memory) : (s.withMem x).fi = s.fi := rfl

@[simp] theorem State.withMa_pending (s : State) (x : Arbiter) : (s.withMa x).pending = s.pending := rfl
@[simp] theorem State.withMa_clk (s : State) (x : Arbiter) : (s.withMa x).clk = s.clk := rfl
@[simp] theorem State.withMa_ft (s : State) (x : Arbiter) : (s.withMa x).ft = s.ft := rfl
@[simp] theorem State.withMa_be (s : State) (x : Arbiter) : (s.withMa x).be = s.be := rfl
@[simp] theorem State.withMa_axes (s : State) (x : Arbiter) : (s.withMa x).axes = s.axes := rfl
@[simp] theorem State.withMa_lc (s : State) (x : Arbiter) : (s.withMa x).lc = s.lc := rfl
@[simp] theorem State.withMa_ms (s : State) (x : Arbiter) : (s.withMa x).ms = s.ms := rfl
@[simp] theorem State.withMa_pl (s : State) (x : Arbiter) : (s.withMa x).pl = s.pl := rfl
@[simp] theorem State.withMa_sr (s : State) (x : Arbiter) : (s.withMa x).sr = s.sr := rfl
@[simp] theorem State.withMa_rw (s : State) (x : Arbiter) : (s.withMa x).rw = s.rw := rfl
@[simp] theorem State.withMa_mem (s : State) (x : Arbiter) : (s.withMa x).mem = s.mem := rfl
@[simp] theorem State.withMa_ma (s : State) (x : Arbiter) : (s.withMa x).ma = x := rfl
@[simp] theorem State.withMa_sp (s : State) (x : Arbiter) : (s.withMa x).sp = s.sp := rfl
@[simp] theorem State.withMa_al (s : State) (x : Arbiter) : (s.withMa x).al = s.al := rfl
@[simp] theorem State.withMa_wire (s : State) (x : Arbiter) : (s.withMa x).wire = s.wire := rfl
@[simp] theorem State.withMa_fi (s : State) (x : Arbiter) : (s.withMa x).fi = s.fi := rfl

@[simp] theorem State.withSp_pending (s : State) (x : SystemPort) : (s.withSp x).pending = s.pending := rfl
@[simp] theorem State.withSp_clk (s : State) (x : SystemPort) : (s.withSp x).clk = s.clk := rfl
@[simp] theorem State.withSp_ft (s : State) (x : SystemPort) : (s.withSp x).ft = s.ft := rfl
@[simp] theorem State.withSp_be (s : State) (x : SystemPort) : (s.withSp x).be = s.be := rfl
@[simp] theorem State.withSp_axes (s : State) (x : SystemPort) : (s.withSp x).axes = s.axes := rfl
@[simp] theorem State.withSp_lc (s : State) (x : SystemPort) : (s.withSp x).lc = s.lc := rfl
@[simp] theorem State.withSp_ms (s : State) (x : SystemPort) : (s.withSp x).ms = s.ms := rfl
@[simp] theorem State.withSp_pl (s : State) (x : SystemPort) : (s.withSp x).pl = s.pl := rfl
@[simp] theorem State.withSp_sr (s : State) (x : SystemPort) : (s.withSp x).sr = s.sr := rfl
@[simp] theorem State.withSp_rw (s : State) (x : SystemPort) : (s.withSp x).rw = s.rw := rfl
@[simp] theorem State.withSp_mem (s : State) (x : SystemPort) : (s.withSp x).mem = s.mem := rfl
@[simp] theorem State.withSp_ma (s : State) (x : SystemPort) : (s.withSp x).ma = s.ma := rfl
@[simp] theorem State.withSp_sp (s : State) (x : SystemPort) : (s.withSp x).sp = x := rfl
@[simp] theorem State.withSp_al (s : State) (x : SystemPort) : (s.withSp x).al = s.al := rfl
@[simp] theorem State.withSp_wire (s : State) (x : SystemPort) : (s.withSp x).wire = s.wire := rfl
@[simp] theorem State.withSp_fi (s : State) (x : SystemPort) : (s.withSp x).fi = s.fi := rfl

@[simp] theorem State.withAl_pending (s : State) (x : Attention) : (s.withAl x).pending = s.pending := rfl
@[simp] theorem State.withAl_clk (s : State) (x : Attention) : (s.withAl x).clk = s.clk := rfl
@[simp] theorem State.withAl_ft (s : State) (x : Attention) : (s.withAl x).ft = s.ft := rfl
@[simp] theorem State.withAl_be (s : State) (x : Attention) : (s.withAl x).be = s.be := rfl
@[simp] theorem State.withAl_axes (s : State) (x : Attention) : (s.withAl x).axes = s.axes := rfl
@[simp] theorem State.withAl_lc (s : State) (x : Attention) : (s.withAl x).lc = s.lc := rfl
@[simp] theorem State.withAl_ms (s : State) (x : Attention) : (s.withAl x).ms = s.ms := rfl
@[simp] theorem State.withAl_pl (s : State) (x : Attention) : (s.withAl x).pl = s.pl := rfl
@[simp] theorem State.withAl_sr (s : State) (x : Attention) : (s.withAl x).sr = s.sr := rfl
@[simp] theorem State.withAl_rw (s : State) (x : Attention) : (s.withAl x).rw = s.rw := rfl
@[simp] theorem State.withAl_mem (s : State) (x : Attention) : (s.withAl x).mem = s.mem := rfl
@[simp] theorem State.withAl_ma (s : State) (x : Attention) : (s.withAl x).ma = s.ma := rfl
@[simp] theorem State.withAl_sp (s : State) (x : Attention) : (s.withAl x).sp = s.sp := rfl
@[simp] theorem State.withAl_al (s : State) (x : Attention) : (s.withAl x).al = x := rfl
@[simp] theorem State.withAl_wire (s : State) (x : Attention) : (s.withAl x).wire = s.wire := rfl
@[simp] theorem State.withAl_fi (s : State) (x : Attention) : (s.withAl x).fi = s.fi := rfl

@[simp] theorem State.withWire_pending (s : State) (x : Wire) : (s.withWire x).pending = s.pending := rfl
@[simp] theorem State.withWire_clk (s : State) (x : Wire) : (s.withWire x).clk = s.clk := rfl
@[simp] theorem State.withWire_ft (s : State) (x : Wire) : (s.withWire x).ft = s.ft := rfl
@[simp] theorem State.withWire_be (s : State) (x : Wire) : (s.withWire x).be = s.be := rfl
@[simp] theorem State.withWire_axes (s : State) (x : Wire) : (s.withWire x).axes = s.axes := rfl
@[simp] theorem State.withWire_lc (s : State) (x : Wire) : (s.withWire x).lc = s.lc := rfl
@[simp] theorem State.withWire_ms (s : State) (x : Wire) : (s.withWire x).ms = s.ms := rfl
@[simp] theorem State.withWire_pl (s : State) (x : Wire) : (s.withWire x).pl = s.pl := rfl
@[simp] theorem State.withWire_sr (s : State) (x : Wire) : (s.withWire x).sr = s.sr := rfl
@[simp] theorem State.withWire_rw (s : State) (x : Wire) : (s.withWire x).rw = s.rw := rfl
@[simp] theorem State.withWire_mem (s : State) (x : Wire) : (s.withWire x).mem = s.mem := rfl
@[simp] theorem State.withWire_ma (s : State) (x : Wire) : (s.withWire x).ma = s.ma := rfl
@[simp] theorem State.withWire_sp (s : State) (x : Wire) : (s.withWire x).sp = s.sp := rfl
@[simp] theorem State.withWire_al (s : State) (x : Wire) : (s.withWire x).al = s.al := rfl
@[simp] theorem State.withWire_wire (s : State) (x : Wire) : (s.withWire x).wire = x := rfl
@[simp] theorem State.withWire_fi (s : State) (x : Wire) : (s.withWire x).fi = s.fi := rfl

@[simp] theorem State.withFi_pending (s : State) (x : FrameInput) : (s.withFi x).pending = s.pending := rfl
@[simp] theorem State.withFi_clk (s : State) (x : FrameInput) : (s.withFi x).clk = s.clk := rfl
@[simp] theorem State.withFi_ft (s : State) (x : FrameInput) : (s.withFi x).ft = s.ft := rfl
@[simp] theorem State.withFi_be (s : State) (x : FrameInput) : (s.withFi x).be = s.be := rfl
@[simp] theorem State.withFi_axes (s : State) (x : FrameInput) : (s.withFi x).axes = s.axes := rfl
@[simp] theorem State.withFi_lc (s : State) (x : FrameInput) : (s.withFi x).lc = s.lc := rfl
@[simp] theorem State.withFi_ms (s : State) (x : FrameInput) : (s.withFi x).ms = s.ms := rfl
@[simp] theorem State.withFi_pl (s : State) (x : FrameInput) : (s.withFi x).pl = s.pl := rfl
@[simp] theorem State.withFi_sr (s : State) (x : FrameInput) : (s.withFi x).sr = s.sr := rfl
@[simp] theorem State.withFi_rw (s : State) (x : FrameInput) : (s.withFi x).rw = s.rw := rfl
@[simp] theorem State.withFi_mem (s : State) (x : FrameInput) : (s.withFi x).mem = s.mem := rfl
@[simp] theorem State.withFi_ma (s : State) (x : FrameInput) : (s.withFi x).ma = s.ma := rfl
@[simp] theorem State.withFi_sp (s : State) (x : FrameInput) : (s.withFi x).sp = s.sp := rfl
@[simp] theorem State.withFi_al (s : State) (x : FrameInput) : (s.withFi x).al = s.al := rfl
@[simp] theorem State.withFi_wire (s : State) (x : FrameInput) : (s.withFi x).wire = s.wire := rfl
@[simp] theorem State.withFi_fi (s : State) (x : FrameInput) : (s.withFi x).fi = x := rfl

end Sys2Proof.Machine
end

