-- ==== Sys2Proof/Laws/Settle.lean ====
section
/-! SUPPORT. What the end of a step can do, once for all: `Settled`. -/

namespace Sys2Proof.Machine

/-- What presenting leaves alone. -/
structure Presented (u t : State) : Prop where
  pending : t.pending = u.pending
  clk : t.clk = u.clk
  ft : t.ft = u.ft
  be : t.be = u.be
  axes : t.axes = u.axes
  lc : t.lc = u.lc
  ms : t.ms = u.ms
  mem : t.mem = u.mem
  al : t.al = u.al
  pl : t.pl = { u.pl with awaiting := t.pl.awaiting }
  sr : t.sr = { u.sr with
    report := t.sr.report, marks := t.sr.marks, mirrorRest := t.sr.mirrorRest,
    awaiting := t.sr.awaiting }
  rw : t.rw = { u.rw with work := t.rw.work }
  sp : t.sp = { u.sp with phase := t.sp.phase }
  wire : t.wire = u.wire
  fi : t.fi = u.fi
  clearHold : t.ma.clearHold = u.ma.clearHold
  portHold : t.ma.portHold = u.ma.portHold
  inflight : t.ma.inflight = u.ma.inflight

theorem presented_refl (s : State) : Presented s s := by
  constructor <;> rfl

theorem Presented.trans {a b c : State} (h : Presented a b) (k : Presented b c) : Presented a c := by
  constructor
  · rw [k.pending, h.pending]
  · rw [k.clk, h.clk]
  · rw [k.ft, h.ft]
  · rw [k.be, h.be]
  · rw [k.axes, h.axes]
  · rw [k.lc, h.lc]
  · rw [k.ms, h.ms]
  · rw [k.mem, h.mem]
  · rw [k.al, h.al]
  · rw [k.pl, h.pl]
  · rw [k.sr, h.sr]
  · rw [k.rw, h.rw]
  · rw [k.sp, h.sp]
  · rw [k.wire, h.wire]
  · rw [k.fi, h.fi]
  · rw [k.clearHold, h.clearHold]
  · rw [k.portHold, h.portHold]
  · rw [k.inflight, h.inflight]

theorem markChanged_presented (s b : State) : Presented s (s.markChanged b) := by
  constructor <;> rfl

theorem presentRw_presented (s : State) : Presented s s.presentRw := by
  unfold State.presentRw
  split
  · split <;> constructor <;> rfl
  · exact presented_refl s

theorem presentPort_presented (s : State) : Presented s s.presentPort := by
  unfold State.presentPort
  split
  · split <;> constructor <;> rfl
  · exact presented_refl s

theorem presentExam_presented (s : State) : Presented s s.presentExam := by
  unfold State.presentExam
  split
  · constructor <;> rfl
  · constructor <;> rfl
  · split <;> constructor <;> rfl
  · exact presented_refl s

theorem presentSr_presented (s : State) : Presented s s.presentSr := by
  unfold State.presentSr
  split
  · split
    · constructor <;> rfl
    · constructor <;> rfl
    · split <;> constructor <;> rfl
    · exact presentExam_presented s
  · exact presented_refl s

theorem presentPl_presented (s : State) : Presented s s.presentPl := by
  unfold State.presentPl
  split
  · split
    · split <;> constructor <;> rfl
    · exact presented_refl s
  · exact presented_refl s

/-- What presenting can do. -/
theorem present_presented (s : State) : Presented s s.present :=
  (((presentRw_presented s).trans (presentPort_presented _)).trans (presentSr_presented _)).trans
    (presentPl_presented _)

theorem presentPort_rw (s : State) : s.presentPort.rw = s.rw := by
  unfold State.presentPort; split <;> [(split <;> rfl); rfl]

theorem presentExam_rw (s : State) : s.presentExam.rw = s.rw := by
  unfold State.presentExam
  split <;> [rfl; rfl; (split <;> rfl); rfl]

theorem presentSr_rw (s : State) : s.presentSr.rw = s.rw := by
  unfold State.presentSr
  split
  · split <;> [rfl; rfl; (split <;> rfl); exact presentExam_rw s]
  · rfl

theorem presentPl_rw (s : State) : s.presentPl.rw = s.rw := by
  unfold State.presentPl
  split
  · split
    · split <;> rfl
    · rfl
  · rfl

theorem present_rw (s : State) : s.present.rw = s.presentRw.rw := by
  rw [State.present, presentPl_rw, presentSr_rw, presentPort_rw]

theorem presentRw_idle (s : State) (h : s.rw.work = .none) : s.presentRw = s := by
  unfold State.presentRw
  split
  · simp [h]
  · rfl

/-- A close being written loses at most one word to presenting. -/
theorem present_closing (s : State) (ws : List WordWrite) (h : s.present.rw.work = .closing ws) :
    ∃ vs, s.rw.work = .closing vs ∧ vs.length ≤ ws.length + 1 := by
  rw [present_rw] at h
  unfold State.presentRw at h
  split at h
  · split at h <;> simp_all
  · exact ⟨ws, h, by omega⟩

/-! ## Granting -/

theorem Arbiter.choice_none {ma : Arbiter} (h : ma.inflight.isSome) : ma.choice = none := by
  simp [Arbiter.choice, h]

theorem Arbiter.drop_holds (ma : Arbiter) (w : Requestor) :
    (ma.drop w).clearHold = ma.clearHold ∧ (ma.drop w).portHold = ma.portHold := by
  cases w <;> exact ⟨rfl, rfl⟩

/-- What granting an access does. -/
theorem access_spec (s : State) (w : Requestor) (r : Request) :
    ∃ acc, acc.who = w ∧ acc.addr = r.addr ∧ acc.read.isNone = r.write.isSome ∧
      s.access w r =
        (s.withMem (match r.write with | some v => memWrite s.mem r.addr v | none => s.mem)).withMa
          { s.ma with inflight := some acc } := by
  unfold State.access
  cases h : r.write with
  | some v => exact ⟨_, rfl, rfl, by simp, rfl⟩
  | none => exact ⟨_, rfl, rfl, by simp, rfl⟩

/-- What the Record Writer's own bookkeeping at a grant does. -/
theorem rwGranted_spec (s : State) :
    (∃ w, s.rwGranted = s.withRw { s.rw with work := w }) ∨
    (∃ o, s.rw.work = .closing [] ∧ s.rw.openSlot = some o ∧ s.rwGranted = s.slotClosed) := by
  unfold State.rwGranted
  split
  · exact .inl ⟨_, rfl⟩
  · exact .inl ⟨_, rfl⟩
  · rename_i h
    cases ho : s.rw.openSlot with
    | some o => exact .inr ⟨o, h, rfl, rfl⟩
    | none =>
      left; exact ⟨.none, by simp [State.slotClosed, ho]⟩
  · exact .inl ⟨s.rw.work, rfl⟩

theorem slotClosed_some (s : State) (o : OpenSlot) (h : s.rw.openSlot = some o) :
    s.slotClosed = ((s.withRw { s.rw with
      nextSlot := (o.index + 1) % o.ringSlots, openSlot := none, work := .none }).markField
      .nextSlot).raise .frame := by
  simp [State.slotClosed, h]

/-- What a grant can do. -/
theorem grant_spec (s : State) :
    s.grant = s ∨
    ∃ who r acc ma, s.ma.choice = some (who, r) ∧ acc.who = who ∧ acc.addr = r.addr ∧
      acc.read.isNone = r.write.isSome ∧ ma.clearHold = s.ma.clearHold ∧
      ma.portHold = s.ma.portHold ∧ ma.inflight = some acc ∧
      let u := (s.withMem (match r.write with | some v => memWrite s.mem r.addr v | none => s.mem)).withMa ma
      s.grant = u ∨ (who = .recordWriter ∧ s.grant = u.rwGranted) := by
  unfold State.grant
  split
  · rename_i r h
    right
    obtain ⟨acc, h1, h2, h3, h4⟩ := access_spec (s.withdraw .recordWriter) .recordWriter r
    refine ⟨_, r, acc, { s.ma.drop .recordWriter with inflight := some acc }, h, h1, h2, h3, rfl, rfl,
      rfl, .inr ⟨rfl, ?_⟩⟩
    rw [h4]; rfl
  · rename_i who r hne h
    right
    obtain ⟨acc, h1, h2, h3, h4⟩ := access_spec (s.withdraw who) who r
    refine ⟨who, r, acc, { s.ma.drop who with inflight := some acc }, h, h1, h2, h3, ?_, ?_, rfl,
      .inl ?_⟩
    · exact (Arbiter.drop_holds _ _).1
    · exact (Arbiter.drop_holds _ _).2
    · rw [h4]; rfl
  · exact .inl rfl

/-- What the end of a step can do. -/
theorem settle_settled (s b : State) : Settled s (s.settle b) := by
  have hp := (markChanged_presented s b).trans (present_presented (s.markChanged b))
  have hc := present_closing (s.markChanged b)
  unfold State.settle
  generalize (s.markChanged b).present = p at hp hc
  have hw : (s.markChanged b).rw = s.rw := rfl
  rw [hw] at hc
  have hq := present_presented p.grant
  rcases grant_spec p with hg | ⟨who, r, acc, ma, hch, hwho, haddr, hread, hcl, hpo, hin, hg⟩
  · rw [hg] at hq ⊢
    have k := hp.trans hq
    exact ⟨k.pending, k.clk, k.ft, k.be, k.axes, k.lc, k.ms, k.pl, k.sr, .inl ⟨k.rw, k.al⟩, k.sp,
      k.wire, k.fi, k.clearHold, k.portHold, fun _ => k.inflight, fun a _ => by rw [k.mem]⟩
  · have hnone : s.ma.inflight = none := by
      rw [← hp.inflight]
      cases hi : p.ma.inflight with
      | none => rfl
      | some x => rw [Arbiter.choice_none (by simp [hi])] at hch; cases hch
    have hmem : ∀ a, acc.read.isNone = true → acc.addr ≠ a → memRead
        (match r.write with | some v => memWrite p.mem r.addr v | none => p.mem) a = memRead p.mem a := by
      intro a _ ha
      cases hwr : r.write with
      | none => rfl
      | some v => exact memRead_memWrite_other _ _ _ _ (by rw [← haddr]; exact fun h => ha h.symm)
    have hmem2 : acc.read.isNone = false →
        (match r.write with | some v => memWrite p.mem r.addr v | none => p.mem) = p.mem := by
      intro h; rw [hread] at h; cases hwr : r.write <;> simp_all
    have finish : ∀ g : State, Presented g g.present → g.pending = p.pending → g.clk = p.clk →
        g.ft = p.ft → g.be = p.be → g.axes = p.axes → g.lc = p.lc → g.ms = p.ms → g.pl = p.pl →
        (g.sr = { p.sr with marks := g.sr.marks }) → g.sp = p.sp → g.wire = p.wire → g.fi = p.fi → g.ma = ma →
        g.mem = (match r.write with | some v => memWrite p.mem r.addr v | none => p.mem) →
        ((g.rw = { p.rw with work := g.rw.work } ∧ g.al = p.al) ∨
          ∃ o, p.rw.work = .closing [] ∧ p.rw.openSlot = some o ∧
            g.rw = { p.rw with work := .none, openSlot := none,
                               nextSlot := (o.index + 1) % o.ringSlots } ∧
            g.al = p.al.raise .frame ∧ g.present.rw = g.rw) →
        Settled s g.present := by
      intro g k e1 e2 e3 e4 e5 e6 e7 e8 e9 e10 e14 e15 e11 e12 e13
      constructor
      · rw [k.pending, e1, hp.pending]
      · rw [k.clk, e2, hp.clk]
      · rw [k.ft, e3, hp.ft]
      · rw [k.be, e4, hp.be]
      · rw [k.axes, e5, hp.axes]
      · rw [k.lc, e6, hp.lc]
      · rw [k.ms, e7, hp.ms]
      · rw [k.pl, e8, hp.pl]
      · rw [k.sr, e9, hp.sr]
      · rcases e13 with ⟨h1, h2⟩ | ⟨o, h1, h2, h3, h4, h5⟩
        · left; exact ⟨by rw [k.rw, h1, hp.rw], by rw [k.al, h2, hp.al]⟩
        · right
          obtain ⟨vs, hv, hl⟩ := hc [] h1
          refine ⟨vs, o, hv, by simpa using hl, ?_, ?_, ?_⟩
          · rw [← h2, hp.rw]
          · rw [h5, h3, hp.rw]
          · rw [k.al, h4, hp.al]
      · rw [k.sp, e10, hp.sp]
      · rw [k.wire, e14, hp.wire]
      · rw [k.fi, e15, hp.fi]
      · rw [k.clearHold, e11, hcl, hp.clearHold]
      · rw [k.portHold, e11, hpo, hp.portHold]
      · intro h; rw [hnone] at h; cases h
      · intro a ha
        rw [k.mem, e12, ← hp.mem]
        cases hr : acc.read with
        | none =>
          exact hmem a (by simp [hr]) (ha acc hnone (by rw [k.inflight, e11, hin]) hr)
        | some x => rw [hmem2 (by simp [hr])]
    rcases hg with hg | ⟨hrw, hg⟩
    · rw [hg]
      exact finish _ (present_presented _) rfl rfl rfl rfl rfl rfl rfl rfl rfl rfl rfl rfl rfl rfl
        (.inl ⟨rfl, rfl⟩)
    · rcases rwGranted_spec ((p.withMem (match r.write with
          | some v => memWrite p.mem r.addr v | none => p.mem)).withMa ma) with ⟨w, hs⟩ | ⟨o, ho1, ho2, hs⟩
      · rw [hg, hs]
        exact finish _ (present_presented _) rfl rfl rfl rfl rfl rfl rfl rfl rfl rfl rfl rfl rfl rfl
          (.inl ⟨rfl, rfl⟩)
      · rw [hg, hs]
        rw [slotClosed_some _ o ho2]
        simp only [State.withMa_rw, State.withMem_rw] at ho1 ho2
        refine finish _ (present_presented _) ?_ ?_ ?_ ?_ ?_ ?_ ?_ ?_ ?_ ?_ ?_ ?_ ?_ ?_
          (.inr ⟨o, ho1, ho2, ?_, ?_, ?_⟩) <;> try (simp [State.raise, State.markField]; done)
        rw [present_rw, presentRw_idle _ (by simp [State.raise, State.markField])]

end Sys2Proof.Machine
end

