-- ==== Sys2Proof/Laws/Exec.lean ====
section
/-! SUPPORT. Running a command: the passing of time, due and not due events, causes. -/

namespace Sys2Proof.Machine

/-! ## The passing of time -/

/-- What the passing of time can touch: the timebase, the link's reading of AXL, the wire, FRAME,
and the mark of LINK_STATE. -/
structure Passed (s t : State) : Prop where
  frame : t = { s with
    clk := t.clk, lc := t.lc, wire := t.wire, fi := t.fi, sr := { s.sr with marks := t.sr.marks } }
  resetn : t.clk.resetn = s.clk.resetn
  /-- of the link, only its state, what is being read and the dominant measure -/
  link : t.lc = { s.lc with
    st := t.lc.st, rx := t.lc.rx, reading := t.lc.reading, dominant := t.lc.dominant }
  /-- the link goes on only from AWAIT_REPLY to RECEIVING (R104) -/
  state : t.lc.st = s.lc.st ∨ (s.lc.st = .awaitReply ∧ t.lc.st = .receiving)

theorem Passed.refl (s : State) : Passed s s := ⟨rfl, rfl, rfl, .inl rfl⟩

theorem Passed.trans {a b c : State} (h : Passed a b) (k : Passed b c) : Passed a c := by
  refine ⟨?_, k.resetn.trans h.resetn, ?_, ?_⟩
  · rw [k.frame, h.frame]
  · rw [k.link, h.link]
  · rcases k.state with k | ⟨k, l⟩ <;> rcases h.state with h | ⟨h, m⟩ <;> simp_all

theorem listen_passed (s : State) (drv : List Bool) : Passed s (s.listen drv) := by
  unfold State.listen
  split
  · exact .refl s
  · dsimp only
    split <;> exact ⟨rfl, rfl, rfl, .inl rfl⟩

theorem pass_passed (s : State) (d : Time) : Passed s (s.pass d) := by
  unfold State.pass
  dsimp only
  split
  · refine Passed.trans ?_ (listen_passed _ _)
    exact ⟨rfl, rfl, rfl, .inl rfl⟩
  · exact .refl s

theorem fall_passed (s : State) (n : Nat) : Passed s (s.fall n) := by
  unfold State.fall
  dsimp only
  split
  · exact .refl s
  · rename_i h _
    split
    · split
      · exact ⟨rfl, rfl, rfl, .inl rfl⟩
      · exact ⟨rfl, rfl, rfl, .inr ⟨h, rfl⟩⟩
    · exact ⟨rfl, rfl, rfl, .inl rfl⟩
  · split <;> exact ⟨rfl, rfl, rfl, .inl rfl⟩
  · exact ⟨rfl, rfl, rfl, .inl rfl⟩

theorem edge_passed (s : State) : Passed s s.edge := by
  unfold State.edge
  split
  · exact ⟨rfl, rfl, rfl, .inl rfl⟩
  · dsimp only
    split
    · refine Passed.trans ?_ (fall_passed _ _)
      exact ⟨rfl, rfl, rfl, .inl rfl⟩
    · exact ⟨rfl, rfl, rfl, .inl rfl⟩

/-- What a span can do. -/
theorem elapse_passed (s : State) (dt : Span) : Passed s (s.elapse dt) := by
  fun_induction State.elapse s dt with
  | case1 s => exact .refl s
  | case2 s d => exact pass_passed s d
  | case3 s d e rest ih => exact ((pass_passed s d).trans (edge_passed _)).trans ih

/-- A span is no time for the blocks other than the timebase and the link. -/
theorem elapse_frame (s : State) (dt : Span) :
    s.elapse dt = { s with
      clk := (s.elapse dt).clk, lc := (s.elapse dt).lc, wire := (s.elapse dt).wire,
      fi := (s.elapse dt).fi,
      sr := { s.sr with marks := (s.elapse dt).sr.marks } } := (elapse_passed s dt).frame

@[simp] theorem elapse_resetn (s : State) (dt : Span) : (s.elapse dt).clk.resetn = s.clk.resetn :=
  (elapse_passed s dt).resetn

/-- A run of microseconds adds to the timebase unless RESETn holds it. -/
theorem pass_tb (s : State) (d : Time) :
    (s.pass d).clk = if s.clk.resetn then { s.clk with tb := s.clk.tb + d } else s.clk := by
  unfold State.pass
  split
  · unfold State.listen
    dsimp only
    split
    · rfl
    · split <;> rfl
  · rfl

/-- OFF, the link reads nothing as time passes (R120). -/
theorem elapse_off (s : State) (dt : Span) (h : s.lc.st = .off) : (s.elapse dt).lc = s.lc := by
  have hp : ∀ (t : State) (d : Time), t.lc.st = .off → (t.pass d).lc = t.lc := by
    intro t d ht
    unfold State.pass State.listen
    simp only [State.withWire_lc, State.withFi_lc, State.withClk_lc, ht, if_true]
    split <;> rfl
  have he : ∀ t : State, t.lc.st = .off → t.edge.lc = t.lc := by
    intro t ht
    unfold State.edge State.fall
    split
    · rfl
    · simp only [State.withWire_lc, ht]
      split <;> rfl
  fun_induction State.elapse s dt with
  | case1 s => rfl
  | case2 s d => exact hp s d h
  | case3 s d e rest ih =>
    have h1 : (s.pass d).edge.lc = s.lc := by rw [he _ (by rw [hp s d h]; exact h), hp s d h]
    rw [ih (by rw [h1]; exact h), h1]

@[simp] theorem elapse_pending (s : State) (dt : Span) : (s.elapse dt).pending = s.pending := by
  rw [elapse_frame]
@[simp] theorem elapse_ft (s : State) (dt : Span) : (s.elapse dt).ft = s.ft := by
  rw [elapse_frame]
@[simp] theorem elapse_be (s : State) (dt : Span) : (s.elapse dt).be = s.be := by
  rw [elapse_frame]
@[simp] theorem elapse_axes (s : State) (dt : Span) : (s.elapse dt).axes = s.axes := by
  rw [elapse_frame]
@[simp] theorem elapse_ms (s : State) (dt : Span) : (s.elapse dt).ms = s.ms := by
  rw [elapse_frame]
@[simp] theorem elapse_pl (s : State) (dt : Span) : (s.elapse dt).pl = s.pl := by
  rw [elapse_frame]
@[simp] theorem elapse_rw (s : State) (dt : Span) : (s.elapse dt).rw = s.rw := by
  rw [elapse_frame]
@[simp] theorem elapse_mem (s : State) (dt : Span) : (s.elapse dt).mem = s.mem := by
  rw [elapse_frame]
@[simp] theorem elapse_ma (s : State) (dt : Span) : (s.elapse dt).ma = s.ma := by
  rw [elapse_frame]
@[simp] theorem elapse_sp (s : State) (dt : Span) : (s.elapse dt).sp = s.sp := by
  rw [elapse_frame]
@[simp] theorem elapse_al (s : State) (dt : Span) : (s.elapse dt).al = s.al := by
  rw [elapse_frame]
@[simp] theorem elapse_inForce (s : State) (dt : Span) : (s.elapse dt).sr.inForce = s.sr.inForce := by
  rw [elapse_frame]
@[simp] theorem elapse_seq (s : State) (dt : Span) : (s.elapse dt).lc.seq = s.lc.seq := by
  rw [(elapse_passed s dt).link]

/-! ## Running an event -/

/-- A due event: the command completes with the event's effect and the end of the step. -/
theorem runEvent_settled {dt : Span} {event : State → Option State} {s u : State}
    (h : event (s.elapse dt) = some u) : ∃ t, runEvent dt event s = .next t ∧ Settled u t := by
  refine ⟨u.settle (s.elapse dt), ?_, settle_settled u _⟩
  unfold runEvent; rw [h]

/-- An event that is not due changes only the time. -/
theorem runEvent_none {dt : Span} {event : State → Option State} {s : State}
    (h : event (s.elapse dt) = none) : runEvent dt event s = .next (s.elapse dt) := by
  unfold runEvent; rw [h]

/-- Everything running an event can answer. -/
theorem runEvent_cases {dt : Span} {event : State → Option State} {s t : State}
    (h : runEvent dt event s = .next t) :
    (event (s.elapse dt) = none ∧ t = s.elapse dt) ∨
    ∃ u, event (s.elapse dt) = some u ∧ t = u.settle (s.elapse dt) := by
  unfold runEvent at h
  split at h
  · rename_i u hu; exact .inr ⟨u, hu, by injection h with h; exact h.symm⟩
  · rename_i hu; exact .inl ⟨hu, by injection h with h; exact h.symm⟩

/-! ## Causes -/

@[simp] theorem raise_pending (s : State) (c : Cause) : (s.raise c).pending = s.pending := rfl
@[simp] theorem raise_clk (s : State) (c : Cause) : (s.raise c).clk = s.clk := rfl
@[simp] theorem raise_ft (s : State) (c : Cause) : (s.raise c).ft = s.ft := rfl
@[simp] theorem raise_be (s : State) (c : Cause) : (s.raise c).be = s.be := rfl
@[simp] theorem raise_axes (s : State) (c : Cause) : (s.raise c).axes = s.axes := rfl
@[simp] theorem raise_lc (s : State) (c : Cause) : (s.raise c).lc = s.lc := rfl
@[simp] theorem raise_ms (s : State) (c : Cause) : (s.raise c).ms = s.ms := rfl
@[simp] theorem raise_pl (s : State) (c : Cause) : (s.raise c).pl = s.pl := rfl
@[simp] theorem raise_sr (s : State) (c : Cause) : (s.raise c).sr = s.sr := rfl
@[simp] theorem raise_rw (s : State) (c : Cause) : (s.raise c).rw = s.rw := rfl
@[simp] theorem raise_mem (s : State) (c : Cause) : (s.raise c).mem = s.mem := rfl
@[simp] theorem raise_ma (s : State) (c : Cause) : (s.raise c).ma = s.ma := rfl
@[simp] theorem raise_sp (s : State) (c : Cause) : (s.raise c).sp = s.sp := rfl
@[simp] theorem raise_wire (s : State) (c : Cause) : (s.raise c).wire = s.wire := rfl
@[simp] theorem raise_fi (s : State) (c : Cause) : (s.raise c).fi = s.fi := rfl
@[simp] theorem raise_al (s : State) (c : Cause) : (s.raise c).al = s.al.raise c := rfl

@[simp] theorem attention_raise_part (al : Attention) (c : Cause) : (al.raise c).part = al.part := rfl
@[simp] theorem attention_raise_enables (al : Attention) (c : Cause) :
    (al.raise c).enables = al.enables := rfl
@[simp] theorem attention_raise_causes (al : Attention) (c : Cause) :
    (al.raise c).causes = al.causes ||| c.mask := rfl
@[simp] theorem attention_raise_attnLow (al : Attention) (c : Cause) :
    (al.raise c).attnLow = ((al.causes ||| c.mask) &&& al.enables != 0) := rfl

end Sys2Proof.Machine
end

