-- ==== Sys2Proof/Laws/Axes.lean ====
section
/-! SUPPORT. What the Axis Tracker's and the Link Controller's shared operations can do, one lemma each. -/

namespace Sys2Proof.Machine

/-! ## The three records -/

@[simp] theorem Axes.get_set_same (a : Axes) (x : Axis) (r : AxisRec) : (a.set x r).get x = r := by
  cases x <;> rfl

@[simp] theorem Axes.get_set_other (a : Axes) (x y : Axis) (r : AxisRec) (h : y ≠ x) :
    (a.set x r).get y = a.get y := by
  cases x <;> cases y <;> first | rfl | exact absurd rfl h

/-- Two sets of records that agree on every axis are equal. -/
theorem Axes.ext_get {a b : Axes} (h : ∀ x, a.get x = b.get x) : a = b := by
  have hf := h .focus
  have hi := h .iris
  have hz := h .zoom
  cases a; cases b
  simp only [Axes.get] at hf hi hz
  rw [hf, hi, hz]

/-- The records an event of R37 leaves. -/
def Axes.map (a : Axes) (f : Axis → AxisRec → AxisRec) : Axes :=
  { focus := f .focus a.focus, iris := f .iris a.iris, zoom := f .zoom a.zoom }

@[simp] theorem Axes.get_map (a : Axes) (f : Axis → AxisRec → AxisRec) (x : Axis) :
    (a.map f).get x = f x (a.get x) := by
  cases x <;> rfl

/-- Some axis went into or out of LOST. -/
def Axes.crossed (a b : Axes) : Bool :=
  lostCrossed a.focus b.focus || lostCrossed a.iris b.iris || lostCrossed a.zoom b.zoom

/-- What an event of R37 does. -/
theorem moveAxes_spec (s : State) (f : Axis → AxisRec → AxisRec) :
    s.moveAxes f = { s with
      axes := s.axes.map f, al := s.al.raiseWhen (s.axes.crossed (s.axes.map f)) .axis } := by
  unfold State.moveAxes State.raiseIf Attention.raiseWhen Axes.crossed Axes.map
  dsimp only
  split <;> rfl

/-- An event of R37 touches the axis records and the causes only. -/
theorem moveAxes_frame (s : State) (f : Axis → AxisRec → AxisRec) :
    s.moveAxes f = { s with axes := (s.moveAxes f).axes, al := (s.moveAxes f).al } := by
  rw [moveAxes_spec]

@[simp] theorem moveAxes_get (s : State) (f : Axis → AxisRec → AxisRec) (x : Axis) :
    (s.moveAxes f).axes.get x = f x (s.axes.get x) := by
  rw [moveAxes_spec]; exact Axes.get_map _ _ _

/-- A raise keeps every cause that is SET. -/
theorem raiseWhen_part (al : Attention) (b : Bool) (c : Cause) : (al.raiseWhen b c).part = al.part := by
  unfold Attention.raiseWhen; split <;> rfl

/-! ## Restarts -/

/-- The records after every TRACK axis started again are those of `restartedAxes`. -/
theorem map_restart (s : State) (b : Blanking) :
    s.axes.map (fun x r => if s.tracks x then r.restart b else r) = s.restartedAxes b := rfl

theorem crossed_restart (s : State) (b : Blanking) :
    s.axes.crossed (s.restartedAxes b) = s.someTrackLost := by
  have one : ∀ (t : Bool) (r : AxisRec),
      lostCrossed r (restartedAxis t b r) = (t && r.st == .lost) := by
    intro t r
    cases t
    · simp [lostCrossed, restartedAxis]
    · cases h : r.st <;> simp only [lostCrossed, restartedAxis, if_true, h] <;> rfl
  simp only [Axes.crossed, State.restartedAxes, one, State.someTrackLost]

/-- Every TRACK axis starts again, with the cause AXIS if one was LOST (R30, R33, R34). -/
theorem restart_spec (s : State) (b : Blanking) :
    s.moveTracked (·.restart b) = { s with
      axes := s.restartedAxes b, al := s.al.raiseWhen s.someTrackLost .axis } := by
  unfold State.moveTracked
  rw [moveAxes_spec, map_restart, crossed_restart]

/-- A break begins (R30). -/
theorem axesBreakBegin_spec (s : State) :
    s.axesBreakBegin = { s with
      axes := s.restartedAxes (.pending s.blankTime), al := s.al.raiseWhen s.someTrackLost .axis } :=
  restart_spec s (.pending s.blankTime)

/-- A stuck period ends (R33). -/
theorem axesStuckEnd_spec (s : State) :
    s.axesStuckEnd = { s with
      axes := s.restartedAxes (.until s.blankUntil), al := s.al.raiseWhen s.someTrackLost .axis } :=
  restart_spec s (.until s.blankUntil)

/-- A detach (R34). -/
theorem axesDetach_spec (s : State) :
    s.axesDetach = { s with
      axes := s.restartedAxes (if s.lc.breakOnWire then .pending s.blankTime else .until s.blankUntil),
      al := s.al.raiseWhen s.someTrackLost .axis } :=
  restart_spec s _

/-- A break's end sets pending expiries and raises nothing (R30). -/
theorem axesBreakEnd_spec (s : State) :
    s.axesBreakEnd = { s with axes := s.axes.map (fun _ r => r.breakEnd s.expiryAfter) } := by
  have one : ∀ r : AxisRec, lostCrossed r (r.breakEnd s.expiryAfter) = false := by
    intro r; unfold AxisRec.breakEnd lostCrossed; split <;> simp
  unfold State.axesBreakEnd
  rw [moveAxes_spec]
  simp [Axes.crossed, Axes.map, one, Attention.raiseWhen]

/-- A stuck period begins: every TRACK axis is LOST, with the cause AXIS if one was not (R32). -/
theorem axesStuck_spec (s : State) :
    s.axesStuck = { s with
      axes := s.axes.map (fun x r => if s.tracks x then { r with st := .lost } else r),
      al := s.al.raiseWhen s.someTrackKept .axis } := by
  have one : ∀ (t : Bool) (r : AxisRec),
      lostCrossed r (if t then { r with st := .lost } else r) = (t && r.st != .lost) := by
    intro t r
    cases t
    · simp [lostCrossed]
    · cases h : r.st <;> simp only [lostCrossed, if_true, h] <;> rfl
  unfold State.axesStuck State.moveTracked
  rw [moveAxes_spec]
  simp only [Axes.crossed, Axes.map, one, State.someTrackKept]

/-! ## Completions and notes -/

/-- A completion that is taken: one record changes, with the cause AXIS if it went into or out of LOST
(R25, R37). -/
theorem deliver_taken (s : State) (a : Adopted) (x : Axis) (unit : Nat) (c : Completion)
    (reply : Option (Sample × Byte)) (ha : s.sr.inForce = some a)
    (hm : (a.settings.axis x).mode = .track) (hu : (a.settings.axis x).unit = unit) :
    let r := (s.axes.get x).complete (trackCap x) (a.settings.axis x) c reply
    s.deliver x unit c reply = { s with
      axes := s.axes.set x r, al := s.al.raiseWhen (lostCrossed (s.axes.get x) r) .axis } := by
  intro r
  have same : ∀ y : AxisRec, lostCrossed y y = false := fun y => by simp [lostCrossed]
  unfold State.deliver
  rw [ha]
  simp only [hm, hu, and_self, if_true]
  rw [moveAxes_spec]
  cases x <;> simp [Axes.map, Axes.set, Axes.get, Axes.crossed, same, r]

/-- A completion for an axis that does not match is discarded (R25). -/
theorem deliver_discarded (s : State) (a : Adopted) (x : Axis) (unit : Nat) (c : Completion)
    (reply : Option (Sample × Byte)) (ha : s.sr.inForce = some a)
    (h : (a.settings.axis x).mode ≠ .track ∨ (a.settings.axis x).unit ≠ unit) :
    s.deliver x unit c reply = s := by
  unfold State.deliver
  rw [ha]
  dsimp only
  rw [if_neg]
  rintro ⟨h1, h2⟩
  rcases h with h | h <;> contradiction

/-- A completion touches the axis records and the causes only. -/
theorem deliver_frame (s : State) (x : Axis) (unit : Nat) (c : Completion)
    (reply : Option (Sample × Byte)) :
    s.deliver x unit c reply = { s with
      axes := (s.deliver x unit c reply).axes, al := (s.deliver x unit c reply).al } := by
  unfold State.deliver
  split
  · dsimp only
    split
    · exact moveAxes_frame _ _
    · rfl
  · rfl

/-- LOST_ARB, SKIPPED and BREAK only set the last completion, so nothing is raised (R29, R37). -/
theorem deliver_noted (s : State) (a : Adopted) (x : Axis) (unit : Nat) (c : Completion)
    (reply : Option (Sample × Byte)) (ha : s.sr.inForce = some a)
    (hm : (a.settings.axis x).mode = .track) (hu : (a.settings.axis x).unit = unit)
    (hc : c = .lostArb ∨ c = .skipped ∨ c = .broken) :
    s.deliver x unit c reply = { s with
      axes := s.axes.set x { s.axes.get x with lastCompletion := c } } := by
  rw [deliver_taken s a x unit c reply ha hm hu]
  rcases hc with rfl | rfl | rfl <;>
    simp [AxisRec.complete, lostCrossed, Attention.raiseWhen]

/-- A note touches the axis records and the causes only. -/
theorem deliverNote_frame (s : State) (addr : Nat) (code : NoteCode) (pos : Option Counts) :
    s.deliverNote addr code pos = { s with
      axes := (s.deliverNote addr code pos).axes, al := (s.deliverNote addr code pos).al } :=
  moveAxes_frame _ _

/-! ## The link -/

/-- The link free with no MARK waiting is IDLE (R108). -/
theorem linkFree_idle (s : State) (h : s.lc.waiting = none) :
    s.linkFree = { s with lc := { s.lc with st := .idle, rx := none, reading := none, dominant := none } } := by
  unfold State.linkFree; rw [h]; rfl

/-- The link free with a MARK waiting starts it (R106, R111). -/
theorem linkFree_mark (s : State) (x : Axis) (unit : Nat) (h : s.lc.waiting = some (x, unit)) :
    s.linkFree = s.startMark x unit s.ownLead := by
  unfold State.linkFree; rw [h]

/-- A free link touches the link only. -/
theorem linkFree_frame (s : State) : s.linkFree = { s with lc := s.linkFree.lc } := by
  unfold State.linkFree; split <;> rfl

/-- BREAK for a MARK only sets the last completion of an axis still in TRACK on its unit (R25, R29). -/
theorem deliver_broken (s : State) (x : Axis) (unit : Nat) :
    s.deliver x unit .broken none = { s with axes := s.markBroken (some (x, unit)) s.axes } := by
  unfold State.markBroken
  cases ha : s.sr.inForce with
  | none => simp [State.deliver, State.tracks, State.mode, ha]
  | some a =>
    by_cases h : (a.settings.axis x).mode = .track ∧ (a.settings.axis x).unit = unit
    · rw [deliver_noted s a x unit .broken none ha h.1 h.2 (by simp)]
      simp [State.tracks, State.mode, State.unit, ha, h.1, h.2]
    · rw [deliver_discarded s a x unit .broken none ha (by
        by_cases hm : (a.settings.axis x).mode = .track
        · exact .inr fun hu => h ⟨hm, hu⟩
        · exact .inl hm)]
      simp [State.tracks, State.mode, State.unit, ha, h]

/-- A break ends the transaction in flight and the waiting MARK (R114, R116). -/
theorem breakMarks_spec (s : State) :
    s.breakMarks = { s with
      axes := s.marksBroken s.axes,
      lc := { s.lc with trans := none, waiting := none, rx := none } } := by
  unfold State.breakMarks State.marksBroken
  cases ht : s.lc.trans with
  | none =>
    cases hw : s.lc.waiting with
    | none => rfl
    | some w => dsimp only; rw [deliver_broken]; rfl
  | some t =>
    dsimp only
    rw [deliver_broken]
    cases hw : s.lc.waiting with
    | none => rfl
    | some w => dsimp only; rw [deliver_broken]; rfl

/-- Ending a MARK and starting the TRACK axes again do not get in each other's way. -/
theorem restarted_markBroken (s : State) (b : Blanking) (mark : Option (Axis × Nat)) (axes : Axes) :
    ({ s with axes := s.markBroken mark axes } : State).restartedAxes b =
      s.markBroken mark (({ s with axes := axes } : State).restartedAxes b) := by
  unfold State.markBroken
  split
  · rename_i x n
    split
    · rename_i h
      have tk : ∀ ax y, ({ s with axes := ax } : State).tracks y = s.tracks y := fun _ _ => rfl
      cases x <;> simp [State.restartedAxes, restartedAxis, Axes.set, Axes.get, tk, h.1]
    · rfl
  · rfl

theorem someTrackLost_markBroken (s : State) (mark : Option (Axis × Nat)) (axes : Axes) :
    ({ s with axes := s.markBroken mark axes } : State).someTrackLost =
      ({ s with axes := axes } : State).someTrackLost := by
  unfold State.markBroken
  split
  · split
    · rename_i x n h; cases x <;> rfl
    · rfl
  · rfl

/-- Ending the MARKs at a break touches the axis records, the causes and the link. -/
theorem breakMarks_frame (s : State) :
    s.breakMarks = { s with
      axes := s.breakMarks.axes, al := s.breakMarks.al,
      lc := { s.lc with trans := none, waiting := none, rx := none } } := by
  unfold State.breakMarks
  dsimp only
  split <;> split <;> (try rw [deliver_frame]) <;> (try rw [deliver_frame]) <;> rfl

/-- A sent break touches the axis records, the causes and the link (R116). -/
theorem sendBreak_frame (s : State) :
    s.sendBreak = { s with
      axes := s.sendBreak.axes, al := s.sendBreak.al,
      lc := { s.lc with
        trans := none, waiting := none, rx := none, st := .breakTx, tick := none, reading := none,
        dominant := none, breakEnd := some (s.clk.tb + s.bits 40), breakOver := false } } := by
  unfold State.sendBreak
  dsimp only
  rw [axesBreakBegin_spec, breakMarks_frame]
  rfl

/-- A sensed break touches the axis records, the causes and the link (R114). -/
theorem senseBreak_frame (s : State) :
    s.senseBreak = { s with
      axes := s.senseBreak.axes, al := s.senseBreak.al,
      lc := { s.lc with
        trans := none, waiting := none, rx := none, st := .breakRx, tick := none, reading := none,
        dominant := some { length := s.held, bound := true }, breakEnd := none,
        breakOver := false } } := by
  unfold State.senseBreak
  dsimp only
  rw [axesBreakBegin_spec, breakMarks_frame]
  rfl

/-- A break ends the MARKs and starts every TRACK axis again, with the cause AXIS if one was LOST (R30, R114,
R116). -/
theorem breakMarks_begin (s : State) (lc : Link) :
    (({ s.breakMarks with lc := lc } : State)).axesBreakBegin = { s with
      axes := s.marksBroken (s.restartedAxes (.pending s.blankTime)),
      al := s.al.raiseWhen s.someTrackLost .axis, lc := lc } := by
  rw [axesBreakBegin_spec, breakMarks_spec]
  have hr := (restarted_markBroken s (.pending s.blankTime) s.lc.waiting _).trans
    (congrArg (s.markBroken s.lc.waiting)
      (restarted_markBroken s _ (s.lc.trans.map (fun m => (m.axis, m.unit))) s.axes))
  have hl := (someTrackLost_markBroken s s.lc.waiting _).trans
    (someTrackLost_markBroken s (s.lc.trans.map (fun m => (m.axis, m.unit))) s.axes)
  exact congrArg₂ (fun ax lost => ({ s with
    axes := ax, al := s.al.raiseWhen lost .axis, lc := lc } : State)) hr hl

/-- A sent break ends the MARKs and restarts the TRACK axes (R30, R116). -/
theorem sendBreak_spec (s : State) :
    s.sendBreak = { s with
      axes := s.marksBroken (s.restartedAxes (.pending s.blankTime)),
      al := s.al.raiseWhen s.someTrackLost .axis,
      lc := { s.lc with
        trans := none, waiting := none, rx := none, st := .breakTx, tick := none, reading := none,
        dominant := none, breakEnd := some (s.clk.tb + s.bits 40), breakOver := false } } := by
  unfold State.sendBreak
  refine (breakMarks_begin s _).trans ?_
  rw [breakMarks_spec]
  rfl

/-- A sensed break ends the MARKs and restarts the TRACK axes (R30, R114). -/
theorem senseBreak_spec (s : State) :
    s.senseBreak = { s with
      axes := s.marksBroken (s.restartedAxes (.pending s.blankTime)),
      al := s.al.raiseWhen s.someTrackLost .axis,
      lc := { s.lc with
        trans := none, waiting := none, rx := none, st := .breakRx, tick := none, reading := none,
        dominant := some { length := s.held, bound := true }, breakEnd := none,
        breakOver := false } } := by
  unfold State.senseBreak
  refine (breakMarks_begin s _).trans ?_
  rw [breakMarks_spec]

/-- After a break with none owed the link is IDLE and the timer restarts (R109, R115). -/
theorem linkAfterBreak_idle (s : State) (h : s.lc.owed = false) :
    s.linkAfterBreak = { s with lc := { s.lc with
      st := .idle, tick := s.nextTick, dominant := none, breakEnd := none,
      breakOver := false } } := by
  unfold State.linkAfterBreak; simp [h, State.withLc]

/-- A MARK becoming due touches the link only (R111). -/
theorem markDue_frame (s : State) (x : Axis) (unit : Nat) :
    s.markDue x unit = { s with lc := (s.markDue x unit).lc } := by
  unfold State.markDue
  split
  · rfl
  · split
    · split <;> rfl
    · rfl
  all_goals rfl

end Sys2Proof.Machine
end

