-- ==== Sys2Proof/Laws/Frames.lean ====
section
/-! SUPPORT. What the Frame Timer's, the Band Engine's and the Profile Loader's shared operations can do,
one lemma each. -/

namespace Sys2Proof.Machine

/-! ## Notices and cuts -/

/-- A notice goes to the held list while a frame is CUTTING and to the Record Writer's queue otherwise. -/
theorem sendNotice_spec (s : State) (w : WorkItem) :
    s.sendNotice w =
      if s.ft.cutting.isSome then { s with ft := { s.ft with heldNotices := s.ft.heldNotices ++ [w] } }
      else { s with rw := { s.rw with queue := s.rw.queue ++ [w] } } := rfl

/-- A notice changes only the held notices and the Record Writer's queue. -/
theorem sendNotice_frame (s : State) (w : WorkItem) :
    s.sendNotice w = { s with
      ft := { s.ft with heldNotices := (s.sendNotice w).ft.heldNotices },
      rw := { s.rw with queue := (s.sendNotice w).rw.queue } } := by
  unfold State.sendNotice; split <;> rfl

/-- A cut touches the frame's condition, the release list and the notices only. -/
theorem cutFrame_frame (s : State) :
    s.cutFrame = { s with
      ft := { s.ft with
        current := s.cutFrame.ft.current, released := s.cutFrame.ft.released,
        heldNotices := s.cutFrame.ft.heldNotices, cutting := s.cutFrame.ft.cutting },
      rw := { s.rw with queue := s.cutFrame.rw.queue } } := by
  unfold State.cutFrame
  split
  · split
    · split
      · rfl
      · rw [sendNotice_frame]; rfl
    · rfl
  · rfl

@[simp] theorem cutFrame_t0 (s : State) : s.cutFrame.ft.t0 = s.ft.t0 := by rw [cutFrame_frame]
@[simp] theorem cutFrame_frameNo (s : State) : s.cutFrame.ft.frameNo = s.ft.frameNo := by
  rw [cutFrame_frame]
@[simp] theorem cutFrame_pending (s : State) : s.cutFrame.pending = s.pending := by rw [cutFrame_frame]
@[simp] theorem cutFrame_clk (s : State) : s.cutFrame.clk = s.clk := by rw [cutFrame_frame]
@[simp] theorem cutFrame_be (s : State) : s.cutFrame.be = s.be := by rw [cutFrame_frame]
@[simp] theorem cutFrame_axes (s : State) : s.cutFrame.axes = s.axes := by rw [cutFrame_frame]
@[simp] theorem cutFrame_lc (s : State) : s.cutFrame.lc = s.lc := by rw [cutFrame_frame]
@[simp] theorem cutFrame_ms (s : State) : s.cutFrame.ms = s.ms := by rw [cutFrame_frame]
@[simp] theorem cutFrame_pl (s : State) : s.cutFrame.pl = s.pl := by rw [cutFrame_frame]
@[simp] theorem cutFrame_sr (s : State) : s.cutFrame.sr = s.sr := by rw [cutFrame_frame]
@[simp] theorem cutFrame_mem (s : State) : s.cutFrame.mem = s.mem := by rw [cutFrame_frame]
@[simp] theorem cutFrame_ma (s : State) : s.cutFrame.ma = s.ma := by rw [cutFrame_frame]
@[simp] theorem cutFrame_sp (s : State) : s.cutFrame.sp = s.sp := by rw [cutFrame_frame]
@[simp] theorem cutFrame_al (s : State) : s.cutFrame.al = s.al := by rw [cutFrame_frame]
@[simp] theorem cutFrame_warnCount (s : State) : s.cutFrame.rw.warnCount = s.rw.warnCount := by
  rw [cutFrame_frame]
@[simp] theorem cutFrame_work (s : State) : s.cutFrame.rw.work = s.rw.work := by rw [cutFrame_frame]

/-! ## Takes and releases -/

/-- Taking a band changes only the engine; the held values stand. -/
theorem takeBand_frame (s : State) (f : Frame) (b : Nat) :
    s.takeBand f b = { s with be := { s.be with engine := (s.takeBand f b).be.engine } } := by
  unfold State.takeBand; split <;> rfl

/-- Raising a band changes only the next-release index, the release list and the engine. -/
theorem raiseBand_frame (s : State) (f : Frame) (b : Nat) :
    s.raiseBand f b = { s with
      ft := { s.ft with nextRelease := b + 1, released := (s.raiseBand f b).ft.released },
      be := { s.be with engine := (s.raiseBand f b).be.engine } } := by
  unfold State.raiseBand
  split
  · rw [takeBand_frame]; rfl
  · rfl
  · rfl

/-- Raising the due bands changes only the next-release index, the release list and the engine. -/
theorem raiseDue_frame (s : State) (now : Time) (n : Nat) :
    s.raiseDue now n = { s with
      ft := { s.ft with
        nextRelease := (s.raiseDue now n).ft.nextRelease, released := (s.raiseDue now n).ft.released },
      be := { s.be with engine := (s.raiseDue now n).be.engine } } := by
  induction n generalizing s with
  | zero => rfl
  | succ n ih =>
    unfold State.raiseDue
    split
    · split
      · rw [ih, raiseBand_frame]
      · rfl
    · rfl

/-- The take of a waiting band changes only the release list and the engine. -/
theorem takeWaiting_frame (s : State) :
    s.takeWaiting = { s with
      ft := { s.ft with released := s.takeWaiting.ft.released },
      be := { s.be with engine := s.takeWaiting.be.engine } } := by
  unfold State.takeWaiting
  split
  · rw [takeBand_frame]; rfl
  · rfl

/-- Nothing is taken while the release list is empty. -/
theorem takeWaiting_none (s : State) (h : s.ft.released = []) : s.takeWaiting = s := by
  unfold State.takeWaiting; rw [h]; split <;> simp_all

/-! ## A frame begins -/

/-- What the begin of a frame does, its cut first: the number advances, the frame is current, its begin
notice is sent or held behind a frame that is CUTTING; the bands due at once are raised. -/
theorem beginFrame_spec (s : State) (a : Adopted) (reset : Bool) :
    let c := s.cutFrame
    let t := s.beginFrame a reset
    let w := WorkItem.opens
      { number := s.ft.frameNo + 1, t0 := s.ft.t0, bands := a.settings.bands,
        ringBase := a.settings.ringBase, ringSlots := a.settings.ringSlots, seq := a.seq,
        ringReset := reset }
    t = { s with
      ft := { c.ft with
        frameNo := s.ft.frameNo + 1, nextRelease := t.ft.nextRelease, released := t.ft.released,
        current := some
          { number := s.ft.frameNo + 1, t0 := s.ft.t0, geom := a.settings.geometry,
            table := bandTable a.settings.geometry s.ft.t0, settings := a.settings,
            condition := .opened },
        heldNotices := if c.ft.cutting.isSome then c.ft.heldNotices ++ [w] else c.ft.heldNotices },
      be := { s.be with engine := t.be.engine },
      rw := { s.rw with
        queue := if c.ft.cutting.isSome then c.rw.queue else c.rw.queue ++ [w] } } := by
  intro c t w
  have hc := cutFrame_frame s
  simp only [t, State.beginFrame]
  rw [raiseDue_frame]
  cases h : s.cutFrame.ft.cutting with
  | none =>
    simp only [sendNotice_spec, State.withFt, w, c, Option.isSome_none, Bool.false_eq_true, if_false,
      cutFrame_frameNo, cutFrame_t0]
    generalize s.cutFrame = k at *
    rw [hc]
  | some x =>
    simp only [sendNotice_spec, State.withFt, w, c, Option.isSome_some, if_true,
      cutFrame_frameNo, cutFrame_t0]
    generalize s.cutFrame = k at *
    rw [hc]

/-! ## The Record Writer's queue and the frame -/

/-- What hearing that a record is written does to the frame: only its condition, the notices and the
number CUTTING. -/
theorem frameHears_frame (s : State) (r : RecordItem) :
    s.frameHears r = { s with
      ft := { s.ft with
        current := (s.frameHears r).ft.current, heldNotices := (s.frameHears r).ft.heldNotices,
        cutting := (s.frameHears r).ft.cutting },
      rw := { s.rw with queue := (s.frameHears r).rw.queue } } := by
  unfold State.frameHears
  split
  · rfl
  · split
    · split
      · rw [sendNotice_frame]; rfl
      · rfl
    · rfl

/-! ## The profile -/

/-- Dropping a load touches the load and the loader's request only. -/
theorem dropLoad_spec (s : State) :
    s.dropLoad = { s with
      pl := { s.pl with load := none, awaiting := false }, ma := { s.ma with reqPl := none } } := rfl

/-- What a failed load does. -/
theorem loadFails_spec (s : State) (l : Load) (why : FaultReason) :
    s.loadFails l why = { s with
      pl := { s.pl with
        load := none, awaiting := false, st := .faulted, reason := why, failedSerial := l.serial,
        loaded := none },
      ma := { s.ma with reqPl := none }, al := s.al.raise .pfault } := rfl

/-- What a finished load does: READY, with the held values absent and the band in flight marked, exactly
with the mount PRESENT and no detach mark; UNBOUND otherwise. -/
theorem loadFinishes_spec (s : State) (l : Load) :
    let ready := s.ms.mount = .present ∧ l.detached = false
    s.loadFinishes l = { s with
      pl := { s.pl with
        load := none, awaiting := false, st := if ready then .ready else .unbound, store := l.words,
        loaded := some
          { base := l.base, serial := profSerial l.words, extent := profLength l.words } },
      be := if ready then { engine := s.be.engine.markStale, held := Held.none } else s.be,
      ma := { s.ma with reqPl := none }, al := s.al.raise .profile } := by
  intro ready
  unfold State.loadFinishes
  by_cases h : s.ms.mount = .present ∧ l.detached = false
  · have h' : s.ms.mount = .present ∧ ¬ l.detached := by simpa using h
    simp only [h', ready, and_self, if_true]
    rfl
  · have h' : ¬ (s.ms.mount = .present ∧ ¬ l.detached) := by simpa using h
    simp only [if_neg h', ready, if_neg h]
    rfl

/-- What a load's start does: the load in flight, if any, is gone. -/
theorem loadStarts_spec (s : State) (c : Settings) :
    s.loadStarts c = { s with
      pl := { s.pl with
        st := .loading, reason := .none, awaiting := false,
        load := some
          { base := c.profileBase, serial := c.profileSerial, extent := none, phase := .header,
            detached := false, words := [], parityFailed := false } },
      ma := { s.ma with reqPl := none } } := rfl

/-- The loader's decision at an adoption touches the profile, its request, the held values and the
causes. -/
theorem profileAdopts_frame (s : State) (c : Settings) :
    s.profileAdopts c = { s with
      pl := (s.profileAdopts c).pl, be := (s.profileAdopts c).be, ma := (s.profileAdopts c).ma,
      al := (s.profileAdopts c).al } := by
  unfold State.profileAdopts
  split
  · rfl
  · split
    · split <;> rfl
    · split
      · split <;> rfl
      · split <;> rfl
      · rfl
    · rfl

end Sys2Proof.Machine
end

