-- ==== Sys2Proof/Laws/Events.lean ====
section
/-! SUPPORT. Which blocks each event can touch, one lemma per event: everything else stands. -/

namespace Sys2Proof.Machine

variable {s t : State}

/-! ## Part control and the port -/

theorem resetnReleased_frame (h : resetnReleased s = some t) :
    t = { s with clk := t.clk, mem := t.mem, sp := t.sp } := by
  unfold resetnReleased at h
  split at h <;> cases h
  rfl

theorem memoryCleared_frame (h : memoryCleared s = some t) : t = { s with ma := t.ma, sr := t.sr } := by
  unfold memoryCleared at h
  split at h <;> cases h
  rfl

theorem clearingEnded_frame (h : clearingEnded s = some t) : t = { s with al := t.al, ma := t.ma } := by
  unfold clearingEnded at h
  split at h <;> cases h
  rfl

theorem runCommand_frame (h : s.runCommand = some t) :
    t = { s with al := t.al, axes := t.axes, lc := t.lc, rw := t.rw } := by
  unfold State.runCommand at h
  split at h <;> cases h
  rw [sendBreak_frame]; rfl

theorem haltCommand_frame (h : s.haltCommand = some t) :
    t = { s with ft := t.ft, lc := t.lc, al := t.al, rw := t.rw } := by
  unfold State.haltCommand at h
  split at h <;> cases h
  rw [cutFrame_frame]; rfl

theorem sresetCommand_frame (h : s.sresetCommand = some t) :
    t = { s with
      ft := t.ft, be := t.be, axes := t.axes, lc := t.lc, pl := t.pl, sr := t.sr, rw := t.rw, ma := t.ma,
      al := t.al } := by
  unfold State.sresetCommand at h
  split at h <;> cases h
  rfl

/-- A write to CONTROL is one of the three commands. -/
theorem controlWrite_cases {v : Word} (h : s.controlWrite v = some t) :
    s.takesRegisterWrite = true ∧ (s.runCommand = some t ∨ s.haltCommand = some t ∨ s.sresetCommand = some t) := by
  unfold State.controlWrite at h
  split at h
  · rename_i k
    refine ⟨k, ?_⟩
    split at h
    · exact .inl h
    · exact .inr (.inl h)
    · exact .inr (.inr h)
    · cases h
  · cases h

theorem causesWritten_frame {v : Word} (h : s.causesWritten v = some t) : t = { s with al := t.al } := by
  unfold State.causesWritten at h
  split at h <;> cases h
  rfl

theorem enablesWritten_frame {v : Word} (h : s.enablesWritten v = some t) : t = { s with al := t.al } := by
  unfold State.enablesWritten at h
  split at h <;> cases h
  rfl

/-- A register write is a write to CONTROL, CAUSES or ENABLES. -/
theorem registerWrite_cases {addr : BitVec 15} {v : Word} (h : s.registerWrite addr v = some t) :
    s.controlWrite v = some t ∨ s.causesWritten v = some t ∨ s.enablesWritten v = some t := by
  unfold State.registerWrite at h
  split at h
  · exact .inl h
  · split at h
    · exact .inr (.inl h)
    · split at h
      · exact .inr (.inr h)
      · cases h

theorem tbLoReadDone_frame (h : tbLoReadDone s = some t) : t = { s with al := t.al } := by
  unfold tbLoReadDone at h
  split at h <;> cases h
  rfl

theorem strobeBegins_frame {k : Strobe} (h : s.strobeBegins k = some t) : t = { s with sp := t.sp } := by
  unfold State.strobeBegins at h
  split at h <;> cases h
  rfl

theorem strobeEnds_frame (h : strobeEnds s = some t) : t = { s with sp := t.sp, ma := t.ma } := by
  unfold strobeEnds at h
  split at h <;> cases h
  rfl

theorem slotJudged_frame (s : State) (n : BeginNotice) (i b : Nat) (v : Stored) :
    s.slotJudged n i b v = { s with al := (s.slotJudged n i b v).al, rw := (s.slotJudged n i b v).rw } := by
  unfold State.slotJudged State.raiseIf
  dsimp only
  split <;> split <;> rfl

theorem portHears_frame (s : State) (a : Access) :
    s.portHears a = { s with al := (s.portHears a).al, sp := (s.portHears a).sp } := by
  unfold State.portHears State.raiseIf
  dsimp only
  split <;> split <;> rfl

theorem judgePair_frame (s : State) (sel seq : Word) (b : Bool) (n : BitVec 32) :
    s.judgePair sel seq b n = { s with sr := (s.judgePair sel seq b n).sr } := by
  unfold State.judgePair; split <;> rfl

theorem selectorRead_frame (s : State) (v : Stored) (n : BitVec 32) :
    s.selectorRead v n = { s with al := (s.selectorRead v n).al, sr := (s.selectorRead v n).sr } := by
  unfold State.selectorRead
  split
  · rfl
  · split
    · rfl
    · split
      · rfl
      · rw [judgePair_frame]

theorem pageWordRead_frame (s : State) (v : Stored) :
    s.pageWordRead v = { s with sr := (s.pageWordRead v).sr } := by
  unfold State.pageWordRead; split <;> rfl

theorem readerHears_frame (s : State) (a : Access) :
    s.readerHears a = { s with al := (s.readerHears a).al, sr := (s.readerHears a).sr } := by
  unfold State.readerHears
  dsimp only
  split
  · rw [selectorRead_frame]; rfl
  · rw [judgePair_frame]; rfl
  · rw [pageWordRead_frame]; rfl
  · rfl

theorem loaderHears_frame (s : State) (a : Access) :
    s.loaderHears a = { s with pl := (s.loaderHears a).pl } := by
  unfold State.loaderHears; split <;> rfl

/-- A completion touches its requestor, the arbiter and the causes. -/
theorem accessHeard_frame (s : State) (a : Access) :
    s.accessHeard a = { s with
      al := (s.accessHeard a).al, sp := (s.accessHeard a).sp, rw := (s.accessHeard a).rw,
      sr := (s.accessHeard a).sr, pl := (s.accessHeard a).pl } := by
  unfold State.accessHeard
  split
  · unfold State.recordWriterHears
    split
    · rw [slotJudged_frame]
    · rfl
  · rw [portHears_frame]
  · rw [readerHears_frame]
  · rw [loaderHears_frame]

theorem accessCompletes_frame (h : accessCompletes s = some t) :
    t.ma = { s.ma with inflight := none } ∧ s.ma.inflight.isSome = true ∧
    t = { s with
      ma := t.ma, al := t.al, sp := t.sp, rw := t.rw, sr := t.sr, pl := t.pl } := by
  unfold accessCompletes at h
  split at h
  · rename_i a ha
    dsimp only at h
    cases h
    rw [accessHeard_frame]
    refine ⟨?_, by simp [ha], ?_⟩ <;> split <;> rfl
  · cases h

theorem disturbed_frame {addr : BitVec 15} {d : Word} (h : s.disturbed addr d = some t) :
    t = { s with mem := memDisturb s.mem addr.toNat d } := by
  unfold State.disturbed at h
  split at h <;> cases h
  rfl

/-! ## Frames and records -/

theorem adoptPending_frame (s : State) :
    s.adoptPending = { s with
      sr := s.adoptPending.sr, al := s.adoptPending.al, axes := s.adoptPending.axes,
      lc := s.adoptPending.lc, pl := s.adoptPending.pl, be := s.adoptPending.be,
      ma := s.adoptPending.ma } := by
  have timer : ∀ u : State, u.startTimer = { u with lc := u.startTimer.lc } := by
    intro u; unfold State.startTimer; split <;> rfl
  have again : ∀ u : State,
      u.sendBreak = { u with
        lc := u.sendBreak.lc, axes := u.sendBreak.axes, al := u.sendBreak.al } := by
    intro u; rw [sendBreak_frame]
  have rate : ∀ u : State,
      u.breakForRate = { u with
        lc := u.breakForRate.lc, axes := u.breakForRate.axes, al := u.breakForRate.al } := by
    intro u
    unfold State.breakForRate
    split
    case h_5 => by_cases hb : u.lc.breakEnd.isSome
                · simp only [hb, if_true]; rw [axesBreakBegin_spec]; rfl
                · simp only [hb, Bool.false_eq_true, if_false]; exact again u
    all_goals first | rfl | exact again u
  unfold State.adoptPending
  split
  · unfold State.servesSettings
    dsimp only
    rw [timer]
    split
    · rw [profileAdopts_frame, State.markChanged, State.axesAdopt, moveAxes_frame]; rfl
    · rw [rate, profileAdopts_frame, State.markChanged, State.axesAdopt, moveAxes_frame]; rfl
  · rfl

theorem frameOrNone_frame (s old : State) :
    s.frameOrNone old = { s with
      ft := (s.frameOrNone old).ft, be := (s.frameOrNone old).be, rw := (s.frameOrNone old).rw,
      al := (s.frameOrNone old).al } := by
  unfold State.frameOrNone
  split
  · dsimp only; rw [beginFrame_spec]; rfl
  · rfl

theorem beginLook_frame (s : State) : s.beginLook = { s with sr := s.beginLook.sr } := by
  unfold State.beginLook; split <;> rfl

theorem frameEdge_frame {x : Time} (h : s.frameEdge x = some t) :
    t = { s with
      ft := t.ft, be := t.be, axes := t.axes, lc := t.lc, pl := t.pl, sr := t.sr, rw := t.rw, ma := t.ma,
      al := t.al, fi := t.fi } := by
  unfold State.frameEdge at h
  split at h
  · cases h
    dsimp only
    rw [beginLook_frame, frameOrNone_frame, adoptPending_frame]
    rfl
  · cases h

theorem bandReleased_frame (h : bandReleased s = some t) : t = { s with ft := t.ft, be := t.be } := by
  unfold bandReleased at h
  split at h
  · split at h <;> cases h
    rw [raiseBand_frame]
  · cases h

theorem bandComputed_frame (h : bandComputed s = some t) :
    t = { s with be := t.be, rw := t.rw, pl := t.pl, ma := t.ma, al := t.al } := by
  unfold bandComputed at h
  split at h
  · cases h
    unfold State.endFinishing
    split
    · split
      · rw [loadFinishes_spec]; rfl
      · rfl
    · rfl
  · cases h
  · cases h

theorem watchdogExpires_frame (h : watchdogExpires s = some t) :
    t = { s with al := t.al, ft := t.ft, rw := t.rw } := by
  unfold watchdogExpires at h
  split at h
  · split at h <;> cases h
    rw [cutFrame_frame]; rfl
  · cases h

theorem slotOpened_frame (h : slotOpened s = some t) : t = { s with rw := t.rw } := by
  unfold slotOpened at h
  split at h <;> cases h <;> rfl

theorem recordTakenUp_frame (h : recordTakenUp s = some t) : t = { s with rw := t.rw } := by
  unfold recordTakenUp at h
  split at h <;> cases h
  rfl

theorem recordDone_frame (h : recordDone s = some t) :
    t = { s with rw := t.rw, be := t.be, ft := t.ft } := by
  unfold recordDone at h
  split at h
  · cases h
    rw [takeWaiting_frame, frameHears_frame]; rfl
  · cases h

theorem slotCloses_frame (h : slotCloses s = some t) : t = { s with rw := t.rw } := by
  unfold slotCloses at h
  split at h <;> cases h
  rfl

/-! ## Settings, profile, mount -/

theorem examinationBegins_frame (h : examinationBegins s = some t) :
    t = { s with sr := t.sr, al := t.al } := by
  unfold examinationBegins at h
  split at h
  · dsimp only at h
    split at h <;> cases h <;> rfl
  · cases h

theorem copyDone_frame (h : copyDone s = some t) : t = { s with sr := t.sr, al := t.al } := by
  unfold copyDone at h
  split at h
  · cases h; rfl
  · split at h
    · split at h <;> cases h <;> rfl
    · cases h
  · cases h

theorem headerFetched_frame (h : headerFetched s = some t) :
    t = { s with pl := t.pl, ma := t.ma, al := t.al } := by
  unfold headerFetched at h
  split at h
  · split at h
    · split at h <;> cases h <;> rfl
    · cases h
  · cases h

theorem bodyFetched_frame (h : bodyFetched s = some t) :
    t = { s with pl := t.pl, be := t.be, ma := t.ma, al := t.al } := by
  unfold bodyFetched at h
  split at h
  · split at h
    · split at h
      · cases h; rfl
      · split at h
        · cases h; rfl
        · cases h; rw [loadFinishes_spec]
    · cases h
  · cases h

theorem laterSample_frame (s : State) (last lens : Level) :
    s.laterSample last lens = { s with
      ms := (s.laterSample last lens).ms, al := (s.laterSample last lens).al,
      pl := (s.laterSample last lens).pl, axes := (s.laterSample last lens).axes,
      lc := (s.laterSample last lens).lc } := by
  have brk : ∀ u : State, u.breakForDetach = { u with
      lc := u.breakForDetach.lc, axes := u.breakForDetach.axes, al := u.breakForDetach.al } := by
    intro u
    unfold State.breakForDetach
    split <;> first | rfl | (split <;> first | rfl | rw [sendBreak_frame]) | rw [sendBreak_frame]
  unfold State.laterSample
  dsimp only
  split
  · rfl
  · unfold State.detach; dsimp only; rw [brk, axesDetach_spec]; rfl
  · rfl

theorem lensSampled_frame {lens : Level} (h : s.lensSampled lens = some t) :
    t = { s with
      ms := t.ms, sr := t.sr, al := t.al, pl := t.pl, axes := t.axes, lc := t.lc } := by
  unfold State.lensSampled at h
  split at h
  · dsimp only at h
    split at h
    · cases h; rfl
    · cases h; rw [laterSample_frame]; rfl
  · cases h

/-! ## The link -/

theorem blankingEnds_frame {x : Axis} (h : s.blankingEnds x = some t) : t = { s with axes := t.axes } := by
  unfold State.blankingEnds at h
  split at h
  · split at h <;> cases h
    rfl
  · cases h
  · cases h

theorem dropWaiting_frame (s : State) :
    s.dropWaiting = { s with
      lc := { s.lc with waiting := s.dropWaiting.lc.waiting }, axes := s.dropWaiting.axes,
      al := s.dropWaiting.al } := by
  unfold State.dropWaiting
  split
  · rw [deliver_frame]; rfl
  · rfl

theorem endTransaction_frame (s : State) (x : Transaction) :
    s.endTransaction x = { s with
      lc := (s.endTransaction x).lc, axes := (s.endTransaction x).axes,
      al := (s.endTransaction x).al } := by
  unfold State.endTransaction
  dsimp only
  rw [linkFree_frame, deliver_frame]
  rfl

theorem markTicked_frame (h : markTicked s = some t) :
    t = { s with lc := t.lc, axes := t.axes, al := t.al } := by
  unfold markTicked at h
  split at h
  · split at h
    · dsimp only at h
      split at h
      · cases h; rw [markDue_frame, dropWaiting_frame]; rfl
      · cases h; rw [dropWaiting_frame]; rfl
    · cases h
  · cases h

theorem dataEnded_frame (h : dataEnded s = some t) : t = { s with lc := t.lc } := by
  unfold dataEnded at h
  split at h
  · split at h
    · dsimp only at h
      split at h <;> cases h <;> rfl
    · cases h
  · cases h

theorem windowCloses_frame (h : windowCloses s = some t) :
    t = { s with lc := t.lc, axes := t.axes, al := t.al } := by
  unfold windowCloses at h
  split at h
  · split at h
    · split at h <;> cases h
      rw [endTransaction_frame]
    · cases h
  · cases h

theorem replyRead_frame {a b c d e : Byte} (h : s.replyRead a b c d e = some t) :
    t = { s with lc := t.lc } := by
  unfold State.replyRead at h
  split at h
  · split at h <;> cases h
    rfl
  · cases h

theorem transactionEnds_frame (h : transactionEnds s = some t) :
    t = { s with lc := t.lc, axes := t.axes, al := t.al } := by
  unfold transactionEnds at h
  split at h
  · split at h <;> cases h
    rw [endTransaction_frame]
  · cases h

theorem arbitrationLost_frame (h : arbitrationLost s = some t) :
    t = { s with lc := t.lc, axes := t.axes, al := t.al } := by
  unfold arbitrationLost at h
  split at h
  · split at h <;> cases h
    rw [deliver_frame]; rfl
  · cases h

theorem bitFaulted_frame (h : bitFaulted s = some t) : t = { s with lc := t.lc } := by
  unfold bitFaulted at h
  split at h
  · split at h <;> cases h
    rfl
  · cases h

theorem frameSeen_frame (h : frameSeen s = some t) : t = { s with lc := t.lc } := by
  unfold frameSeen at h
  split at h <;> cases h
  rfl

theorem framingFound_frame {c : FramingCause} (h : s.framingFound c = some t) :
    t = { s with lc := t.lc } := by
  unfold State.framingFound at h
  split at h
  · split at h <;> cases h
    rfl
  · split at h <;> cases h
    rfl
  · cases h

theorem noteRead_frame {x : Byte} {d : List Byte} {c : Byte} (h : s.noteRead x d c = some t) :
    t = { s with lc := t.lc, axes := t.axes, al := t.al } := by
  unfold State.noteRead at h
  split at h
  · split at h
    · cases h; rw [linkFree_frame, deliverNote_frame]
    · cases h; rw [linkFree_frame]
  · cases h

theorem frameOver_frame (h : frameOver s = some t) : t = { s with lc := t.lc } := by
  unfold frameOver at h
  split at h
  · split at h <;> cases h
    rw [linkFree_frame]
  · cases h

theorem breakSensed_frame {d : Time} (h : s.breakSensed d = some t) :
    t = { s with lc := t.lc, axes := t.axes, al := t.al } := by
  unfold State.breakSensed at h
  split at h <;> cases h
  rw [senseBreak_frame]

theorem breakReleased_frame {w : Level} (h : s.breakReleased w = some t) :
    t = { s with lc := t.lc, axes := t.axes } := by
  unfold State.breakReleased at h
  split at h
  · split at h
    · split at h
      · cases h; rw [axesBreakEnd_spec]; rfl
      · cases h; rfl
    · cases h
  · cases h

theorem sensedBreakEnds_frame (h : sensedBreakEnds s = some t) :
    t = { s with lc := t.lc, axes := t.axes } := by
  unfold sensedBreakEnds at h
  split at h
  · split at h <;> cases h
    rw [axesBreakEnd_spec]; rfl
  · cases h

theorem linkAfterBreak_frame (s : State) :
    s.linkAfterBreak = { s with
      lc := s.linkAfterBreak.lc, axes := s.linkAfterBreak.axes, al := s.linkAfterBreak.al } := by
  unfold State.linkAfterBreak
  dsimp only
  split
  · rw [sendBreak_frame]; rfl
  · rfl

theorem breakWaited_frame (h : breakWaited s = some t) :
    t = { s with lc := t.lc, axes := t.axes, al := t.al } := by
  unfold breakWaited at h
  split at h <;> cases h
  rw [linkAfterBreak_frame]

theorem becomesStuck_frame (h : becomesStuck s = some t) :
    t = { s with lc := t.lc, axes := t.axes, al := t.al } := by
  unfold becomesStuck at h
  split at h
  · split at h <;> cases h
    rw [axesStuck_spec]; rfl
  · cases h

theorem stuckEnds_frame (h : stuckEnds s = some t) :
    t = { s with lc := t.lc, axes := t.axes, al := t.al } := by
  unfold stuckEnds at h
  split at h <;> cases h
  rw [linkAfterBreak_frame, axesStuckEnd_spec]

end Sys2Proof.Machine
end

