-- ==== Sys2Proof/Laws/Flags.lean ====
section
/-! SUPPORT. The flags words of a band record and of a slot header are their flags from bit 0 up. -/

namespace Sys2Proof.Machine

theorem bitsWord_getLsbD (bs : List Bool) (i : Nat) :
    (bitsWord bs).getLsbD i = (decide (i < 16) && bs.getD i false) := by
  have h : (bs.foldr (fun (b : Bool) (n : Nat) => 2 * n + b.toNat) 0).testBit i = bs.getD i false := by
    induction bs generalizing i with
    | nil => simp
    | cons b bs ih =>
      cases i with
      | zero => cases b <;> simp [Nat.testBit_zero]
      | succ i =>
        rw [List.foldr_cons, Nat.testBit_succ, List.getD_cons_succ, ← ih i]
        congr 1
        cases b
        · simp
        · simp; omega
  rw [bitsWord, BitVec.getLsbD_ofNat, h]

theorem flagBit_getLsbD (b : Bool) (k i : Nat) (hk : k < 16) (hi : i < 16) :
    (flagBit b k).getLsbD i = (b && decide (i = k)) := by
  have e : ∀ k < 16, ∀ i < 16, (BitVec.ofNat 16 (1 <<< k)).getLsbD i = decide (i = k) := by decide
  cases b
  · simp [flagBit]
  · simpa [flagBit] using e k hk i hi

theorem headerFlags_bits (a b c d e f : Bool) :
    headerFlags a b c d e f = bitsWord [a, b, c, d, e, f] := by
  ext i hi
  rw [← BitVec.getLsbD_eq_getElem, ← BitVec.getLsbD_eq_getElem, bitsWord_getLsbD]
  simp only [headerFlags, BitVec.getLsbD_or, flagBit_getLsbD, hi, Nat.reduceLT]
  rcases i with _|_|_|_|_|_|i <;> simp

theorem bandFlags_bits (f : BandFlags) :
    f.word = bitsWord [f.extrapolated, f.limited, f.early, f.held, f.fixed, f.mapEdge, f.auxHeld,
      f.scaleLimit, f.shiftLimit, f.gainLimit, f.identity, f.degraded, f.late] := by
  ext i hi
  rw [← BitVec.getLsbD_eq_getElem, ← BitVec.getLsbD_eq_getElem, bitsWord_getLsbD]
  simp only [BandFlags.word, BitVec.getLsbD_or, flagBit_getLsbD, hi, Nat.reduceLT]
  rcases i with _|_|_|_|_|_|_|_|_|_|_|_|_|i <;> simp

end Sys2Proof.Machine
end

