-- ==== Sys2Proof/Laws/Wire.lean ====
section
/-! SUPPORT. What the bits of a frame spell: bytes, headers, the first bit that differs. -/

namespace Sys2Proof.Machine

@[simp] theorem byteBits_length (b : Byte) : (byteBits b).length = 8 := by simp [byteBits]

/-- Eight bits and the byte they spell go with each other. -/
theorem bitsByte_byteBits (b : Byte) : bitsByte (byteBits b) = b := by
  revert b; decide +revert

@[simp] theorem markBits_length (unit : Nat) (seq : Byte) : (markBits unit seq).length = 30 := by
  simp [markBits, markBytes, leadBits]

/-! ## Bytes in a row of bits -/

theorem byteAt_of_take {bits row : List Bool} {n : Nat} (h : bits.take n = row) (first : Nat)
    (hn : first + 8 ≤ n) : byteAt bits first = byteAt row first := by
  simp only [byteAt, ← h, List.drop_take, List.take_take]
  rw [Nat.min_eq_left (by omega)]

theorem flatMap_byteBits_length (bs : List Byte) : (bs.flatMap byteBits).length = 8 * bs.length := by
  induction bs with
  | nil => rfl
  | cons b bs ih => simp [ih]; omega

/-- The `k`th of a row of bytes sent one after another. -/
theorem byteAt_flatMap (bs : List Byte) (k : Nat) (h : k < bs.length) :
    byteAt (bs.flatMap byteBits) (8 * k) = bs[k] := by
  induction bs generalizing k with
  | nil => simp at h
  | cons b bs ih =>
    cases k with
    | zero =>
      simp only [byteAt, List.flatMap_cons, Nat.mul_zero, List.drop_zero, List.getElem_cons_zero]
      rw [List.take_left' (byteBits_length b), bitsByte_byteBits]
    | succ k =>
      have := ih k (by simpa using h)
      simp only [byteAt, List.flatMap_cons, List.getElem_cons_succ] at this ⊢
      rw [show 8 * (k + 1) = (byteBits b).length + 8 * k by simp; omega, List.drop_append,
        List.drop_of_length_le (by simp)]
      simpa using this

/-- What stands after a prefix that has been read. -/
theorem byteAt_append (pre row : List Bool) (first : Nat) :
    byteAt (pre ++ row) (pre.length + first) = byteAt row first := by
  simp [byteAt]

/-- The bytes of a row read from a place on. -/
theorem bytes_of_take {bits pre : List Bool} {bs : List Byte} {n : Nat}
    (h : bits.take n = pre ++ bs.flatMap byteBits) (hn : n = pre.length + 8 * bs.length)
    (k : Nat) (hk : k < bs.length) : byteAt bits (pre.length + 8 * k) = bs[k] := by
  rw [byteAt_of_take h _ (by omega), byteAt_append, byteAt_flatMap bs k hk]

/-! ## Headers (R98) -/

/-- A valid LEAD and the header's bits give the header. -/
theorem header_of_take {r : Reading} {h : Byte}
    (hr : r.bits.take 12 = [false, false, false, true] ++ byteBits h) : r.header = some h := by
  have hl : 12 ≤ r.bits.length := by
    have := congrArg List.length hr
    simp at this; omega
  have h4 : r.bits.take 4 = [false, false, false, true] := by
    have := congrArg (List.take 4) hr
    simpa [List.take_take] using this
  have hlead : r.leadOk = true := by
    unfold Reading.leadOk
    rw [h4, show leadBits = [false, false, false, true] from rfl, List.take_of_length_le (by simp; omega)]
    rfl
  have hb : byteAt r.bits 4 = h := by
    have := bytes_of_take (pre := [false, false, false, true]) (bs := [h]) (n := 12)
      (by simpa using hr) (by rfl) 0 (by simp)
    simpa using this
  simp [Reading.header, hl, hlead, hb]

/-- What has been read of a LEAD is a LEAD as far as it goes. -/
theorem leadOk_iff (r : Reading) : r.leadOk = true ↔ r.bits.take 4 <+: [false, false, false, true] := by
  unfold Reading.leadOk
  rw [show leadBits = [false, false, false, true] from rfl, beq_iff_eq, List.prefix_iff_eq_take]
  constructor
  · intro h
    have := congrArg List.length h
    rw [this, List.length_take, h]
    simp
  · intro h
    rw [h, List.length_take, ← List.take_take, List.take_of_length_le (by simp)]

/-! ## The first bit that differs -/

theorem differsAt_of_take {a b : List Bool} {i : Nat} {v w : Bool} (h : b.take i = a.take i)
    (ha : a[i]? = some v) (hb : b[i]? = some w) (hv : v ≠ w) : differsAt a b = some i := by
  induction i generalizing a b with
  | zero =>
    cases a <;> cases b <;> simp_all [differsAt]
  | succ i ih =>
    cases a with
    | nil => simp at ha
    | cons x a =>
      cases b with
      | nil => simp at hb
      | cons y b =>
        simp only [List.take_succ_cons, List.cons.injEq] at h
        simp only [List.getElem?_cons_succ] at ha hb
        simp [differsAt, h.1, ih h.2 ha hb]

theorem differsAt_eq_none {a b : List Bool} (h : b.take a.length = a.take b.length) :
    differsAt a b = none := by
  induction a generalizing b with
  | nil => simp [differsAt]
  | cons x a ih =>
    cases b with
    | nil => simp [differsAt]
    | cons y b =>
      simp only [List.length_cons, List.take_succ_cons, List.cons.injEq] at h
      simp [differsAt, h.1, ih h.2]

/-- No earlier bit differs, and the first one does not lie after any that does. -/
theorem differsAt_le {a b : List Bool} {i j : Nat} {v w : Bool} (h : differsAt a b = some i)
    (ha : a[j]? = some v) (hb : b[j]? = some w) (hv : v ≠ w) : i ≤ j := by
  induction a generalizing b i j with
  | nil => simp at ha
  | cons x a ih =>
    cases b with
    | nil => simp at hb
    | cons y b =>
      cases j with
      | zero =>
        have : x ≠ y := by simp_all
        simp [differsAt, this] at h
        omega
      | succ j =>
        simp only [List.getElem?_cons_succ] at ha hb
        by_cases e : x = y
        · simp only [differsAt, e, if_true, Option.map_eq_some_iff] at h
          obtain ⟨k, hk, rfl⟩ := h
          exact Nat.succ_le_succ (ih hk ha hb)
        · simp [differsAt, e] at h
          omega

/-! ## Since when the part has not driven the wire (R113) -/

/-- A row with no dominant bit time. -/
theorem lastDominant_none {l : List Bool} (h : ∀ j : Nat, l[j]? ≠ some false) : lastDominant l = 0 := by
  induction l with
  | nil => rfl
  | cons b bs ih =>
    have hb : b = true := by
      cases b
      · exact absurd rfl (h 0)
      · rfl
    simp [lastDominant, hb, ih (fun j hj => h (j + 1) (by simpa using hj))]

/-- A row's last dominant bit time. -/
theorem lastDominant_eq {l : List Bool} {i : Nat} (h : l[i]? = some false)
    (hl : ∀ j : Nat, l[j]? = some false → j ≤ i) : lastDominant l = i + 1 := by
  induction l generalizing i with
  | nil => simp at h
  | cons b bs ih =>
    have tail : ∀ j : Nat, bs[j]? = some false → j + 1 ≤ i := fun j hj => hl (j + 1) (by simpa using hj)
    cases i with
    | zero =>
      have hz : lastDominant bs = 0 := lastDominant_none (fun j hj => absurd (tail j hj) (by omega))
      simp at h
      simp [lastDominant, h, hz]
    | succ i =>
      have := ih (i := i) (by simpa using h) (fun j hj => by have := tail j hj; omega)
      simp [lastDominant, this]

/-- As time passes the wire counts since when the part has not driven it. -/
theorem pass_own (s : State) (d : Time) (h : s.clk.resetn = true) :
    (s.pass d).wire.own =
      (s.withClk { s.clk with tb := s.clk.tb + d }).ownAge s.driven d.toNat := by
  unfold State.pass State.listen
  rw [if_pos h]
  dsimp only
  split
  · rfl
  · split <;> rfl

end Sys2Proof.Machine
end

