-- ==== Sys2Proof/WellFormed.lean ====
section
/-! DEFINITION. Which commands are well formed: operands that the rule of the row can supply. -/

namespace Sys2Proof

open Sys2Proof.Machine

/-- The microseconds of a span. -/
def Span.micros (dt : Span) : Nat := (dt.map BitVec.toNat).sum

/-- A time under 2^31 µs, so that timebase comparisons hold across it (Introduction, "Time"). -/
def spanOk (n : Nat) : Bool := decide (n < 2 ^ 31)

/-- The elapsed time every command carries. -/
def Instr.elapsed : Instr → Span
  | .resetnAssert dt | .resetnRelease dt | .memoryClearDone dt | .clearingEnd dt => dt
  | .run dt _ | .halt dt _ | .sreset dt _ | .causesWrite dt _ | .enablesWrite dt _ => dt
  | .tbLoRead dt | .registerWriteIgnored dt _ _ => dt
  | .portMemoryRead dt _ | .portMemoryWrite dt _ _ | .portStrobeEnd dt => dt
  | .memoryAccessComplete dt | .frameStart dt _ | .bandRelease dt | .bandComputeEnd dt => dt
  | .frameWatchdogExpiry dt | .slotOpen dt | .bandRecordWrite dt | .recordWritten dt => dt
  | .slotClose dt | .examinationBegin dt | .pageCopyDone dt => dt
  | .profileHeaderFetched dt | .profileBodyFetched dt | .mountSample dt _ => dt
  | .blankingExpiry dt _ | .markTick dt | .endOfData dt | .replyWindowClose dt => dt
  | .replyReceived dt _ _ _ _ _ | .transactionEnd dt | .lostArbitration dt | .bitFault dt => dt
  | .receivedFrameFraming dt _ | .noteReceived dt _ _ _ | .breakRecognised dt _ => dt
  | .sentBreakRelease dt _ | .sensedBreakEnd dt | .linkFreeAfterBreak dt => dt
  | .stuck dt | .stuckEnd dt | .wordDisturbed dt _ _ => dt
  | .receivedFrameBegin dt | .receivedFrameEnd dt => dt

/-- The operands of a command, its elapsed time left out, are ones its row can carry. -/
def Instr.operandsOk : Instr → Bool
  -- a CONTROL write is the command its bits ask for (R183)
  | .run _ v => controlCommand v == .run
  | .halt _ v => controlCommand v == .halt
  | .sreset _ v => controlCommand v == .sreset
  -- FRAME is recognised once it has been high for 1 µs (R1)
  | .frameStart _ highFor => decide (highFor.toNat ≤ 1)
  -- kinds 10 and 11 are the unused ones (R178)
  | .receivedFrameFraming _ (.unusedKind h) => decide (2 ≤ headerKind h)
  -- a NOTE has kind 00, and as many data bytes are read as its header announces (R98, R178)
  | .noteReceived _ h data _ => headerKind h == 0 && data.length == headerLength h
  | .breakRecognised _ held => spanOk held.toNat
  | _ => true

/-- Well-formed commands. -/
def Instr.wellFormed (i : Instr) : Bool := spanOk i.elapsed.micros && i.operandsOk

end Sys2Proof
end

