-- ==== Sys2Proof/Tests/Slice0.lean ====
section
/-! SUPPORT. Tests of the model's own: the smoke test of WellFormed, values from the book's worked examples,
and for every statement with hypotheses states that meet them. -/

open Sys2Proof Sys2Proof.Machine

namespace Sys2Proof.Tests

-- One theorem after another: a thread for each at once asks for more memory than a check allows.
set_option Elab.async false

/-! ## WellFormed: each check refuses an ill-formed command and passes a well-formed one -/

theorem test_wf_elapsed : Instr.wellFormed (.resetnAssert [0x7FFFFFFF, 1]) = false := by decide

theorem test_wf_operands :
    let wf := Instr.wellFormed
    [wf (.run [] 2), wf (.halt [] 1), wf (.sreset [] 3), wf (.frameStart [] 2),
     wf (.receivedFrameFraming [] (.unusedKind 0x49)), wf (.noteReceived [] 0x49 [5] 0),
     wf (.noteReceived [] 0x09 [] 0), wf (.breakRecognised [] 0x80000000)] = List.replicate 8 false ∧
    [wf (.run [] 1), wf (.halt [] 2), wf (.sreset [] 4), wf (.frameStart [] 1),
     wf (.receivedFrameFraming [] (.unusedKind 0x81)), wf (.noteReceived [] 0x09 [3] 0),
     wf (.breakRecognised [] 16)] = List.replicate 7 true := by decide

/-! ## The CRC-8 of the worked frames (section 5.3): MARK, reply, NOTE -/

/-- The MARK to unit 1 with sequence 5 as it stands on AXL: LEAD, 0x49, 0x05, CHECK 0x2A, END-OF-DATA. -/
theorem test_mark_bits : (markBits 1 5).map Bool.toNat =
    [0, 0, 0, 1] ++ [0, 1, 0, 0, 1, 0, 0, 1] ++ [0, 0, 0, 0, 0, 1, 0, 1] ++ [0, 0, 1, 0, 1, 0, 1, 0] ++ [1, 1] := by
  decide +kernel

/-! ## Band tables of section 1.11 -/

/-- The geometry of the first worked table. -/
def wide : Geometry :=
  { rows := 2160, bands := 8, lineTime := 3840, readoutOffset := 100, exposure := 10000,
    releaseLead := 500 }

theorem test_band_seven :
    bandTiming wide 50000 7 =
      { first := 1890, last := 2159, centre := 2024, deadline := 78450, ts := 70460, te := 80460,
        release := 77950 } := by decide

theorem test_short_readout :
    let g : Geometry :=
      { rows := 100, bands := 3, lineTime := 300, readoutOffset := 0, exposure := 500,
        releaseLead := 50 }
    bandTiming g 1000 2 =
      { first := 66, last := 99, centre := 82, deadline := 1077, ts := 596, te := 1096,
        release := 1027 } := by decide

/-! ## Correction arithmetic of sections 2.13 and 3.9 to 3.12 -/

/-- The focus map and the settings of section 3.9. -/
def focus39 : AxisSettings :=
  { mode := .track, unit := 1, fixedCoord := 0, qualify := 2, staleMisses := 2, lostMisses := 3,
    average := 1, points := [(0, 0), (16000, 24000), (32000, 52000), (48000, 65535)] }

/-- An axis block in a mode, with nothing else of note. -/
def plainAxis (m : AxisMode) (coord : Nat) : AxisSettings :=
  { mode := m, unit := 2, fixedCoord := coord, qualify := 1, staleMisses := 1, lostMisses := 1,
    average := 1, points := [] }

def settings39 : Settings :=
  { rows := 1000, bands := 2, lineTime := 2560, readoutOffset := 200, exposure := 4000,
    releaseLead := 1000, frameTimeout := 50000, ringBase := 0x1000, ringSlots := 4,
    profileBase := 0x0800, profileSerial := 0x00A37701, profileReload := false, breathingOn := true,
    shadingOn := true, lockCoord := 65535, headroom := 16384, scaleMax := 4404019, shiftMax := 2048,
    shadingStrength := 192, gainMax := 8192, extrapLimit := 4000, warnStretch := 3, mountPeriod := 4,
    linkRate := .fast, markPeriod := 1000, linkLatency := 30, blankTime := 5,
    schedule := List.replicate 8 (some .focus), focus := focus39,
    iris := plainAxis .fixed 32768, zoom := plainAxis .off 0 }

/-- The profile of section 3.9, CHECK left 0. -/
def profile39 : List Word :=
  [0x00A3, 0x7701, 0, 5, 1, 2, 2, 0, 0, 16384, 32768, 49152, 65535, 0, 65535, 0, 65535] ++
  [16620, 16500, 0, 0, 16712, 16548, 0, 0, 16876, 16630, 64, 0, 16958, 16712, 96, 0,
   17040, 16794, 128, 0] ++
  [1200, 300, 0, 800, 200, 0, 400, 100, 0, 200, 60, 0]

/-- The focus record of section 3.9. -/
def live39 : AxisRec :=
  { AxisRec.idle with
    st := .live, good := 2,
    track := [⟨998500, 10600⟩, ⟨1000500, 11400⟩, ⟨1002500, 12300⟩, ⟨1004500, 13300⟩,
              ⟨1006500, 14400⟩, ⟨1008500, 15600⟩] }

def snapshot39 : Snapshot :=
  { axes := { focus := live39, iris := { AxisRec.idle with st := .fixed }, zoom := AxisRec.idle },
    profile := .ready, store := profile39, mount := .present, settings := settings39,
    held := Held.none }

set_option maxRecDepth 8000 in
theorem test_worked_band :
    let r := computeBand snapshot39 1000000 1010000
    (r.pMean, r.u, r.z, r.a, r.sx, r.sy) = (13673, 20510, 0, 32768, 4266158, 4251261) ∧
    (r.shx, r.shy, r.k1, r.k2, r.k3) = (112, 0, 530, 134, 0) ∧ r.flags.word = 1 ∧
    r.focusUsed = some (13673, 20510) := by decide

theorem test_profile_extent : profLength profile39 = 49 ∧ profSerial profile39 = 0x00A37701 := by
  decide

/-- Two rows of section 3.10 and its negative example. -/
theorem test_window_edges :
    let rel := live39.track.map (relSample 1000000)
    meanFocus rel 1000 10000 = 13665 ∧ meanFocus [(0, -10), (1000, -5)] 4000 1000 = -8 := by decide

/-- Three rows of section 3.11. -/
theorem test_falling_map :
    let points : List (Int × Nat) := [(40000, 0), (20000, 30000), (0, 65535)]
    mapPosition points 5000 = (56651, false) ∧ mapPosition points 45000 = (0, true) ∧
    mapPosition points 0 = (65535, false) := by decide

/-- The mixed-sign row of section 3.12. -/
theorem test_gain_ceiling : gainCeiling 6144 6000 (-2000) 500 = (2730, -911, 227, true) := by decide

/-- The averages of section 2.13. -/
theorem test_average :
    meanPosition 4 ([1000, 1004, 1010, 1011, 1013].map (fun p => ⟨0, p⟩)) = 1010 ∧
    meanPosition 2 [⟨0, -3⟩, ⟨0, -4⟩] = -4 := by decide

/-! ## Axis records of section 2.12 -/

def axis212 : AxisSettings := { focus39 with qualify := 3, staleMisses := 2, lostMisses := 4 }

/-- The CHECK_FAULT at 4,030 (BLANKING) and the NO_REPLY at 25,030 that makes the axis LOST. -/
theorem test_misses :
    let blanking : AxisRec :=
      { AxisRec.idle with st := .qualifying, good := 2, blanking := .until 20000 }
    let stale : AxisRec := { AxisRec.idle with st := .stale, good := 3, misses := 3 }
    blanking.complete 64 axis212 .checkFault none = { blanking with lastCompletion := .checkFault } ∧
    stale.complete 64 axis212 .noReply none =
      { stale with st := .lost, misses := 4, lastCompletion := .noReply } := by decide

/-- The reply at 26,030 and the REZERO note at 26,500. -/
theorem test_lost_and_rezero :
    let lost : AxisRec :=
      { AxisRec.idle with st := .lost, good := 3, misses := 4, track := [⟨20030, 40850⟩] }
    let r := lost.complete 64 axis212 .ok (some (⟨26030, 41250⟩, 1))
    (r.st, r.good, r.misses, r.track.length) = (.qualifying, 1, 0, 2) ∧
    ((r.note .rezero none).st, (r.note .rezero none).good, (r.note .rezero none).track) =
      (.qualifying, 0, []) := by decide

/-! ## Words and codes -/

/-- Odd parity over 17 bits (R160): 0 takes a parity bit of 1, a word with one bit set takes 0. -/
theorem test_parity : parityFor 0 = true ∧ parityFor 0x8000 = false ∧ parityFor 0x0003 = true := by
  decide

theorem test_control : controlCommand 7 = .sreset ∧ controlCommand 3 = .halt ∧
    controlCommand 0xFFF8 = .nothing := by decide

/-- The TAG of band 1 of frame 256 + 12, and an axis word LIVE with status 0x01 (R177). -/
theorem test_words : tagWord 268 1 = 0x0C01 ∧
    axisWord { AxisRec.idle with st := .live, unitStatus := 1 } = 0x0401 := by decide

/-! ## Small states -/

/-- HALTED, out of CLEARING, the mount PRESENT, nothing adopted. -/
def halted : State :=
  { State.reset with
    al := { Attention.reset with part := .halted },
    ma := { Arbiter.reset with clearHold := false, portHold := false },
    ms := { mount := .present, lastRaw := some .high, timer := 8000 },
    fi := { since := 9000 } }

def adopted : Adopted := { page := 1, seq := 5, settings := settings39 }

/-- RUNNING at 1,001,000 under the settings of section 3.9, between frames: the link IDLE, the profile
READY, focus LIVE. -/
def running : State :=
  { halted with
    clk := { tb := 1001000, resetn := true },
    al := { Attention.reset with part := .running },
    axes := snapshot39.axes,
    ft := { FrameTimer.reset with t0 := 990000, frameNo := 12, watchdog := some 1040000 },
    lc := { Link.reset with st := .idle, tick := some 1001000, seq := 4, pointer := 7 },
    pl := { ProfileLoader.reset with
      st := .ready, store := profile39,
      loaded := some { base := 0x0800, serial := 0x00A37701, extent := 49 } },
    sr := { SettingsReader.reset with inForce := some adopted, prevRate := .fast } }

def armed : State := { halted with al := { Attention.reset with part := .armed } }

/-- Frame 13 of `running`, begun at 1,000,000. -/
def frame13 : Frame :=
  { number := 13, t0 := 1000000, geom := settings39.geometry,
    table := bandTable settings39.geometry 1000000, settings := settings39, condition := .opened }

/-- `running` with frame 13 OPEN and band 0 raised. -/
def inFrame : State :=
  { running with
    ft := { running.ft with frameNo := 13, t0 := 1000000, current := some frame13, nextRelease := 1 } }

def band0 : InFlight :=
  { frameNo := 13, band := 0, deadline := 1000200, ts := 998690, te := 1002690, snapshot := snapshot39,
    stale := false }

/-- A band result with nothing in it. -/
def blank : BandResult :=
  { pMean := 0, u := 0, z := 0, a := 0, sx := 0, sy := 0, shx := 0, shy := 0, k1 := 0, k2 := 0, k3 := 0,
    flags := { extrapolated := false, limited := false, early := false, held := false, fixed := false,
               mapEdge := false, auxHeld := false, scaleLimit := false, shiftLimit := false,
               gainLimit := false, identity := false, degraded := false, late := false },
    focusUsed := none, irisUsed := none, zoomUsed := none }

def item (b : Nat) : RecordItem := { frameNo := 13, band := b, deadline := 1000200, result := blank }

def slot3 : OpenSlot :=
  { index := 3, base := 4240, ringBase := 0x1000, ringSlots := 4, frameNo := 13, t0 := 1000000,
    planned := 2, written := 0, overwrote := false, noProfile := false, noLens := false,
    degraded := false }

def notice : BeginNotice :=
  { number := 13, t0 := 1000000, bands := 2, ringBase := 0x1000, ringSlots := 4, seq := 5,
    ringReset := false }

/-- The MARK of section 5.3 in flight: focus, unit 1. -/
def mark : Transaction :=
  { axis := .focus, unit := 1, seq := 5, code := .ok, windowAt := none, sampleTime := none, reply := none,
    interpreted := true }

/-- `running` with the link in a state, a transaction and the timebase given. -/
def linkAt (st : LinkState) (tb : Time) (m : Option Transaction) : State :=
  { running with
    clk := { tb := tb, resetn := true }, lc := { running.lc with st := st, trans := m, seq := 5 } }

/-- `linkAt` at 1,001,000 reading bits counted from an edge `n` µs before, on a wire that has been at a level
for `age` µs. -/
def reads (st : LinkState) (m : Option Transaction) (f : Option RxFrame) (n : Nat) (bits : List Bool)
    (level : Level) (age : Nat) : State :=
  let s := linkAt st 1001000 m
  { s with
    lc := { s.lc with rx := f, reading := some { start := 1001000 - micros n, bits := bits } },
    wire := { level := level, age := age, own := age + 1 } }

/-- A frame of another node, and the MARK with its data ended, its reply window open at 1,001,000. -/
def foreign : RxFrame := { joinable := true, interpreted := true, framing := false, replied := false }
def waited : Transaction := { mark with sampleTime := some 1000970, windowAt := some 1001000 }
def replied : Transaction := { waited with reply := some (40000, 0) }

/-- The bits of a frame after its LEAD. -/
def frameBits (bytes : List Byte) : List Bool := [false, false, false, true] ++ bytes.flatMap byteBits

/-- The machine after a command, or the state itself if the command stopped. -/
def after (c : Instr) (s : State) : State :=
  match exec c s with
  | .next t => t
  | .fault _ => s
  | .refused _ => s

/-! ## Commands, one step each -/

/-- R169: the word is stored at the grant, at once on an idle memory. -/
theorem test_port_write :
    memRead (after (.portMemoryWrite [1] 0x1000 0xBEEF) halted).mem 0x1000 =
      { data := 0xBEEF, parity := parityFor 0xBEEF } ∧
    (after (.portMemoryWrite [1] 0x1000 0xBEEF) halted).waitLow = true := by decide +kernel

/-- R101: LOST_ARB is no miss; R102 at the first bit of END-OF-DATA. -/
theorem test_lost_arbitration :
    let t := after (.lostArbitration []) (reads .sending (some mark) none 6 ((markBits 1 5).take 5 ++ [false]) .low 1)
    t.axes.focus.lastCompletion = .lostArb ∧ t.axes.focus.misses = 0 ∧ t.lc.st = .receiving ∧
    (after (.bitFault []) (reads .sending (some mark) none 29 ((markBits 1 5).take 28 ++ [false]) .low 1)).lc.trans =
      some { mark with code := .bitFault, interpreted := false } := by decide +kernel

/-- The MARK of section 5.3: the tick, its END-OF-DATA with the sample time less LINK_LATENCY. -/
theorem test_mark_tick :
    let t := after (.markTick []) running
    t.lc.trans = some mark ∧ t.lc.pointer = 0 ∧ t.drivesAxl = true ∧
    ((after (.endOfData [30]) t).lc.trans.bind (·.sampleTime)) = some 1001000 := by decide +kernel

/-- R104, R113: an all-zero reply is data for its 41 bit times, and a break when it lasts into END-OF-FRAME. -/
theorem test_all_zero_reply :
    let t := (linkAt .awaitReply 1001000 (some waited)).elapse [2, 40]
    t.lc.st = .receiving ∧ (after (.breakRecognised [] 40) t).lc.st = .receiving ∧
    (after (.breakRecognised [1] 41) t).lc.st = .breakRx ∧
    (after (.breakRecognised [1] 41) t).axes.focus.lastCompletion = .broken := by decide +kernel

/-- R23, R30, R117: a change of rate in the middle of the part's own break; R34: a detach in the wait after
it. -/
theorem test_break_goes_on :
    let s : State := { armed with
      sr := { halted.sr with pendingCopy := some adopted },
      lc := { Link.reset with st := .breakTx, breakEnd := some 100 } }
    let t := after (.frameStart [50] 1) s
    t.lc.breakEnd = some 90 ∧ t.axes.focus.st = .seeking ∧ t.axes.focus.blanking = .pending 5 ∧
    (let u := { running with
       lc := { running.lc with st := .breakRx, breakOver := true },
       ms := { running.ms with lastRaw := some .low, timer := 1001000 } }
     (after (.mountSample [] .low) u).lc.breakEnd = some 1001040) := by decide +kernel

/-- R184: RUN in HALTED sends the run-start break of 40 bit times at 250 kbit/s. -/
theorem test_run :
    (after (.run [10] 1) halted).al.part = .armed ∧ (after (.run [10] 1) halted).lc.breakEnd = some 170 := by
  decide +kernel

/-- R186: CAUSES and ENABLES are cleared by SRESET, the mark sequence is kept. -/
theorem test_sreset :
    let s : State := { running with al := { running.al with causes := 0x41, enables := 0x7FF, attnLow := true } }
    (after (.sreset [] 4) s).al.causes = 0 ∧ (after (.sreset [] 4) s).al.attnLow = false ∧
    (after (.sreset [] 4) s).lc.seq = 4 ∧ (after (.sreset [] 4) s).al.part = .halted := by decide +kernel

/-- R3: a frame begins at the frame start; band 0's release lies 800 µs before it, so it is taken at once. -/
theorem test_frame_start :
    let t := after (.frameStart [] 1) running
    t.ft.frameNo = 13 ∧ t.ft.t0 = 1000999 ∧ t.ft.nextRelease = 1 ∧ t.be.engine.busy = true ∧
    t.ft.watchdog = some 1050999 := by decide +kernel

/-- R156: a degraded close sets the stretch count to WARN_STRETCH + 1. -/
theorem test_close :
    let s : State := { running with
      rw := { RecordWriter.reset with openSlot := some slot3, queue := [.ends 13 true] } }
    (after (.slotClose []) s).rw.warnCount = 4 ∧ (after (.slotClose []) s).rw.warnOut = true := by
  decide +kernel

/-! ## Witnesses: states and operands that meet the hypotheses of each statement, clause by clause -/

theorem witness_StepTakesTheFrontCommand :
    ({ halted with pending := [.run [] 1, .halt [] 2] } : State).pending = .run [] 1 :: [.halt [] 2] ∧
    (halted.pending = [] ∧ halted.clk.resetn = true ∧ halted.lc.st = .off) ∧
    (halted.hardReset.pending = [] ∧ halted.hardReset.clk.resetn = false) := by decide

theorem witness_ResetnAssertHoldsEveryBlock : running.clk.resetn = true := by decide

theorem witness_ResetnReleaseStartsClearing :
    (halted.hardReset.clk.resetn = false ∧ halted.hardReset.resetHeld) ∧
    halted.hardReset.sp.strobe = none := ⟨⟨rfl, fun _ => rfl⟩, rfl⟩

theorem witness_ClearingWritesTheMirrorAndEnds :
    let u := State.reset.elapse [1366]
    (u.clk.resetn = true ∧ u.ma = { Arbiter.reset with reqPort := u.ma.reqPort } ∧
      u.ma.portHold = true ∧ u.rw.work = .none ∧ u.sr.report = [] ∧ u.sr.mirrorRest = none) ∧
    (∀ l, u.pl.load = some l → l.wants = false) :=
  ⟨by decide, nofun⟩

/-- CLEARING with all its work done. -/
def cleared : State :=
  { State.reset with
    ma := { Arbiter.reset with clearHold := false },
    ms := { mount := .present, lastRaw := some .high, timer := 8000 } }

theorem witness_ClearingWritesTheMirrorAndEnds_end :
    (let u := cleared.elapse [5]
     u.clk.resetn = true ∧ u.al.part = .clearing ∧ u.ma.clearHold = false ∧ u.ms.lastRaw ≠ none ∧
      u.sr.marks = [] ∧ u.sr.mirrorRest = none ∧ u.sr.report = [] ∧ u.ma.reqSr = none) ∧
    (State.reset.elapse [5]).ma.clearHold = true ∧
    (({ cleared with ms := MountSensor.reset } : State).elapse [5]).ms.lastRaw = none := by decide

theorem witness_RunArmsThePart :
    let u := halted.elapse [1]
    let v : Word := 1
    u.clk.resetn = true ∧ u.sp.strobe = none ∧ u.al.part = .halted ∧ u.lc.trans = none ∧
    u.lc.waiting = none ∧ v.getLsbD 0 = true ∧ v.getLsbD 1 = false ∧ v.getLsbD 2 = false := by decide

theorem witness_HaltHaltsThePart :
    let u := inFrame.elapse [1]
    let v : Word := 3
    u.clk.resetn = true ∧ u.sp.strobe = none ∧ u.al.part = .running ∧ v.getLsbD 1 = true ∧
    v.getLsbD 2 = false := by decide

theorem witness_SresetSoftResetsEveryBlock :
    let u := inFrame.elapse [1]
    let v : Word := 7
    u.clk.resetn = true ∧ u.sp.strobe = none ∧ u.al.part ≠ .clearing ∧ v.getLsbD 2 = true := by decide

theorem witness_CausesAndEnablesWrites :
    ((running.elapse [1]).clk.resetn = true ∧ (running.elapse [1]).sp.strobe = none ∧
      (running.elapse [1]).al.part ≠ .clearing) ∧
    (State.reset.elapse [1]).al.part = .clearing := by decide

theorem witness_RegisterReadsAndTheTimebaseLatch :
    ((running.elapse [1]).clk.resetn = true ∧ (running.elapse [1]).sp.strobe = none ∧
      (running.sresetCommand).isSome = true) ∧
    (7 < 8 ∧ Cause.adopt ≠ .frame) := by decide

/-- R188 to R191: CAUSES reads a bit for each cause, STATE the code of the part state, beside the rest. -/
theorem test_registers :
    let s : State := { running with al := { (running.al.raise .adopt).raise .stuck with faultAddr := 0x7FFF } }
    [0, 1, 2, 3, 4, 5, 6, 7, 8].map s.registerRead =
      [0x3410, 0, 3, 0x0402, 0, 0x7FFF, 0x4628, 0, 0] := by decide +kernel

theorem witness_IgnoredRegisterWrites :
    ((2 : BitVec 15) ≠ 1 ∧ (2 : BitVec 15) ≠ 3 ∧ (2 : BitVec 15) ≠ 4) ∧
    ((5 : BitVec 15) ≠ 1 ∧ (5 : BitVec 15) ≠ 3 ∧ (5 : BitVec 15) ≠ 4) ∧
    (State.reset.elapse [1]).al.part = .clearing ∧ (halted.hardReset.elapse [1]).clk.resetn = false ∧
    ((halted.elapse [1]).al.part = .halted ∧ (2 : Word).getLsbD 1 = true ∧
      (2 : Word).getLsbD 2 = false) ∧
    ((armed.elapse [1]).al.part = .armed ∧ (1 : Word).getLsbD 0 = true ∧ (1 : Word).getLsbD 1 = false ∧
      (1 : Word).getLsbD 2 = false) := by decide

theorem witness_PortAccessBegins :
    let u := halted.elapse [1]
    (u.clk.resetn = true ∧ u.sp = { strobe := none, phase := .idle, dataOut := none } ∧
      u.ma.serves .systemPort = false ∧ u.ma.reqPort = none) ∧
    u.ma.inflight = none ∧ u.ma.clearHold = false ∧ u.ma.portHold = false ∧ u.ma.reqRw = none ∧
    u.rw.work = .none := by decide

/-- A port read of the last word in flight, with its strobe still held or ended before. -/
def portRead (phase : PortPhase) (found : Stored) : State :=
  { halted with
    ma := { halted.ma with inflight := some { who := .systemPort, addr := 0x7FFF, read := some found } },
    sp := { strobe := some { addr := 0x7FFF, write := none }, phase := phase, dataOut := none } }

/-- The register accesses that a strobe keeps out. -/
theorem witness_IgnoredRegisterWrites_strobe :
    ((portRead (.waiting true) (Stored.fresh 5)).elapse [1]).sp.strobe ≠ none := by decide

theorem witness_PortAccessCompletesAndEnds :
    (let u := (portRead (.waiting true) (Stored.disturbed 5)).elapse [1]
     u.ma.inflight = some
        { who := .systemPort, addr := 0x7FFF, read := some (Stored.disturbed 5) } ∧
      u.sp.phase = .waiting true ∧ u.sp.strobe ≠ none) ∧
    (let u := (portRead .idle (Stored.fresh 5)).elapse [1]
     u.ma.inflight = some { who := .systemPort, addr := 0x7FFF, read := some (Stored.fresh 5) } ∧
      u.sp.phase ≠ .waiting true ∧ u.sp.phase = .idle) := by decide +kernel

theorem witness_ArbiterChoosesTheHighestPriority :
    let r (a : Nat) : Option Request := some { addr := a, write := none }
    let four : Arbiter := { halted.ma with reqRw := r 1, reqPort := r 2, reqSr := r 3, reqPl := r 4 }
    let w : State := { halted with ma := { halted.ma with reqRw := some { addr := 9, write := some 7 } } }
    four.choice = some (.recordWriter, ⟨1, none⟩) ∧
    (four.drop .recordWriter).choice = some (.systemPort, ⟨2, none⟩) ∧
    ({ four.drop .recordWriter with portHold := true } : Arbiter).choice =
      some (.settingsReader, ⟨3, none⟩) ∧
    (((four.drop .recordWriter).drop .systemPort).drop .settingsReader).choice =
      some (.profileLoader, ⟨4, none⟩) ∧
    (four.inflight = none ∧ four.clearHold = false ∧ four.reqRw.isSome = true ∧
      four.reqPort.isSome = true ∧ four.portHold = false ∧ four.reqSr.isSome = true ∧
      four.reqPl.isSome = true) ∧
    w.ma.choice = some (.recordWriter, ⟨9, some 7⟩) := by decide

theorem witness_MarkedFieldIsPresented :
    (let s : State := { halted with sr := { halted.sr with marks := mirrorFields } }
     s.ma.free .settingsReader = true ∧ s.ma.clearHold = false ∧ s.sr.mirrorRest = none ∧
     s.sr.report = [] ∧ s.sr.marks = .partState :: mirrorFields.tail) ∧
    MirrorField.markSeq ∈ mirrorFields ∧ running.memoryOk ∧
    (after (.markTick []) running).mirrorWords .markSeq ≠ running.mirrorWords .markSeq :=
  ⟨by decide, by decide, rfl, by decide +kernel⟩

/-- PAGE_SEQ read at the look, and a word of the page at the copy. -/
def paging (awaits : ReaderAwaits) (e : Examination) (v : Stored) (last : Option (Word × Word)) : State :=
  { armed with
    ma := { halted.ma with inflight := some { who := .settingsReader, addr := 0x0102, read := some v } },
    sr := { halted.sr with awaiting := awaits, exam := e, lastPair := last } }

theorem witness_SelectorReadAtTheLook_page :
    let hyp (s : State) (v : Stored) (w : ReaderAwaits) (e : Examination) : Prop :=
      (s.elapse [1]).ma.inflight = some { who := .settingsReader, addr := 0x0102, read := some v } ∧
      (s.elapse [1]).sr.awaiting = w ∧ (s.elapse [1]).sr.exam = e
    hyp (paging .pageSeq (.readSeq 1 12) (Stored.fresh 5) none) (Stored.fresh 5) .pageSeq (.readSeq 1 12) ∧
    (paging .pageSeq (.readSeq 1 12) (Stored.fresh 5) (some (1, 5))).sr.lastPair = some (1, 5) ∧
    hyp (paging .pageWord (.copying 1 5 [5, 0] none) (Stored.disturbed 7) none) (Stored.disturbed 7)
      .pageWord (.copying 1 5 [5, 0] none) := by decide

/-- SELECTOR read at the look, with the word found. -/
def looking (v : Stored) (last : Option (Word × Word)) : State :=
  { armed with
    ma := { halted.ma with inflight := some { who := .settingsReader, addr := 0, read := some v } },
    sr := { halted.sr with awaiting := .selector, exam := .readSelector 12, lastPair := last } }

theorem witness_SelectorReadAtTheLook :
    let hyp (s : State) (v : Stored) : Prop :=
      (s.elapse [1]).ma.inflight = some { who := .settingsReader, addr := 0, read := some v } ∧
      (s.elapse [1]).sr.awaiting = .selector ∧ (s.elapse [1]).sr.exam = .readSelector 12
    (hyp (looking (Stored.disturbed 1) none) (Stored.disturbed 1) ∧
      (Stored.disturbed 1).good = false) ∧
    (hyp (looking (Stored.fresh 0) none) (Stored.fresh 0) ∧ (Stored.fresh 0).good = true ∧
      (Stored.fresh 0).data = 0) ∧
    (hyp (looking (Stored.fresh 2) none) (Stored.fresh 2) ∧ (Stored.fresh 2).good = true) ∧
    (hyp (looking (Stored.fresh 3) none) (Stored.fresh 3) ∧ (Stored.fresh 3).good = true ∧
      (looking (Stored.fresh 3) none).sr.lastPair ≠ some (3, 0)) ∧
    (hyp (looking (Stored.fresh 3) (some (3, 0))) (Stored.fresh 3) ∧
      (looking (Stored.fresh 3) (some (3, 0))).sr.lastPair = some (3, 0)) := by decide +kernel

/-- `armed` with an examination to go on with, its reader free. -/
theorem witness_SelectorReadAtTheLook_presents :
    ∀ e ∈ [Examination.readSelector 12, .readSeq 1 12, .readSeq 2 12, .copying 1 5 [5, 0] none,
           .copying 2 5 [5, 0] none, .copying 1 5 [5, 0] (some 1), .found 1 5 false 12, .none],
      let s : State := { armed with sr := { halted.sr with exam := e } }
      s.ma.free .settingsReader = true ∧ s.ma.clearHold = false ∧ s.sr.mirrorRest = none ∧
      s.sr.report = [] ∧ s.sr.marks = [] ∧ s.sr.exam = e ∧ [(5 : Word), 0].length < 512 := by decide

/-- The STATE word of slot 3 read for frame 13. -/
def judging (v : Stored) : State :=
  { running with
    ma := { halted.ma with inflight := some { who := .recordWriter, addr := 4240, read := some v } },
    rw := { RecordWriter.reset with nextSlot := 3, work := .judging notice 3 4240 true } }

theorem witness_SlotOpenNamesJudgesAndWrites_judged :
    let hyp (s : State) (v : Stored) : Prop :=
      s.ma.inflight = some { who := .recordWriter, addr := 4240, read := some v } ∧
      s.rw.work = .judging notice 3 4240 true
    (hyp ((judging (Stored.fresh 0)).elapse [1]) (Stored.fresh 0) ∧
      hyp ((judging (Stored.fresh 2)).elapse [1]) (Stored.fresh 2) ∧
      hyp ((judging (Stored.disturbed 0)).elapse [1]) (Stored.disturbed 0)) ∧
    (let s := judging (Stored.fresh 2)
     let u := ({ s with ma := { s.ma with reqPort := some { addr := 4240, write := some 0 } } } : State).elapse [1]
     hyp u (Stored.fresh 2) ∧ u.ma.reqPort = some { addr := 4240, write := some 0 } ∧
      u.ma.clearHold = false ∧ u.ma.portHold = false ∧ u.ma.reqRw = none) ∧
    (({ running with rw := { RecordWriter.reset with work := .judged notice 3 4240 true } } : State).elapse
      [1]).rw.work = .judged notice 3 4240 true := by decide +kernel

/-- R146, R155: a FREE granted after the read of STATE is written over by STATE OPEN. -/
theorem test_free_behind_the_read :
    let s := judging (Stored.fresh 2)
    let t := after (.memoryAccessComplete [])
      { s with ma := { s.ma with reqPort := some { addr := 4240, write := some 0 } } }
    let o := after (.slotOpen []) (after (.memoryAccessComplete []) t)
    t.ma.inflight = some { who := .systemPort, addr := 4240, read := none } ∧
    (memRead o.mem 4240).data = 1 ∧ (o.rw.openSlot.map (·.overwrote)) = some true := by decide +kernel

/-! ### Frames -/

theorem witness_FrameStartBeginsAFrame :
    let u := running.elapse [1]
    u.clk.resetn = true ∧ u.al.part = .running ∧ u.sr.pendingCopy = none ∧ u.sr.inForce = some adopted ∧
    (1 : Time).toNat ≤ 1 ∧ (1 : Time).toNat ≤ u.fi.since ∧ u.cutFrame.ft.cutting = none ∧
    u.be.engine = .idle ∧ u.sr.exam = .none ∧
    reached (u.clk.tb - 1) (bandTiming settings39.geometry (u.clk.tb - 1) 0).release = true := by
  decide +kernel

/-- R1: an edge that stayed high longer than it was recognised for, or longer than since the edge before, is none. -/
theorem test_frame_recognition :
    let soon (n : Nat) : State := { running with fi := { since := n } }
    after (.frameStart [] 2) running = running ∧ after (.frameStart [] 1) (soon 0) = soon 0 ∧
    (after (.frameStart [] 0) (soon 0)).ft.frameNo = 13 ∧
    (after (.frameStart [5] 1) (soon 0)).ft.frameNo = 13 ∧
    (after (.frameStart [5] 1) (soon 0)).fi.since = 0 := by decide +kernel

/-- A frame CUTTING while its band is computed, and the frame after it OPEN. -/
def cuttingBefore : State :=
  { inFrame with
    be := { BandEngine.reset with engine := .computing { band0 with frameNo := 12 } },
    ft := { inFrame.ft with cutting := some 12 } }

theorem witness_FrameStartBeginsAFrame_behind_a_cut :
    let u := cuttingBefore.elapse [1]
    u.clk.resetn = true ∧ u.al.part = .running ∧ u.sr.pendingCopy = none ∧ u.sr.inForce = some adopted ∧
    (0 : Time).toNat ≤ u.fi.since ∧ u.cutFrame.ft.cutting ≠ none ∧ u.be.engine ≠ .idle := by decide

/-- ARMED after the examination of the first page, the link IDLE at 250 kbit/s. -/
def accepted : State :=
  { armed with
    sr := { halted.sr with pendingCopy := some adopted }, lc := { Link.reset with st := .idle } }

theorem witness_FrameStartBringsSettingsInForce :
    (∀ l ∈ [Link.reset, { Link.reset with breakEnd := some 170 }, { Link.reset with tick := some 5 }],
     ∀ st ∈ [LinkState.idle, .breakTx, .breakRx, .stuck],
      let u := ({ accepted with lc := { l with st := st } } : State).elapse [1]
      u.clk.resetn = true ∧ u.al.part = .armed ∧ u.sr.pendingCopy = some adopted ∧
        (1 : Time).toNat ≤ u.fi.since ∧ adopted.settings.linkRate ≠ u.rate ∧ u.lc.st = st ∧ u.lc.breakEnd = l.breakEnd ∧ u.lc.tick = l.tick) ∧
    (let u := ({ running with sr := { running.sr with pendingCopy := some adopted } } : State).elapse [1]
     u.clk.resetn = true ∧ u.al.part = .running ∧ u.sr.pendingCopy = some adopted ∧
      adopted.settings.linkRate = u.rate ∧ u.lc.tick ≠ none) ∧
    (AxisMode.off ≠ .track ∧ focus39.mode = .track ∧ focus39.unit ≠ 2 ∧ focus39.unit = 1) := by
  decide +kernel

/-- `running` with settings pending that differ from those in force by this much, and the reader's second word. -/
def bringing (base : Nat) (rest : Option WordWrite) : State :=
  { running with
    sr := { running.sr with
      pendingCopy := some { page := 2, seq := 6, settings := { settings39 with ringBase := base } },
      mirrorRest := rest } }

theorem witness_FrameStartBringsSettingsInForce_report :
    (let u := (bringing 0x1100 none).elapse [1]
     u.clk.resetn = true ∧ u.al.part = .running ∧ u.sr.pendingCopy.isSome = true ∧
      u.ma.free .settingsReader = true ∧ u.ma.clearHold = false ∧ u.sr.mirrorRest = none ∧
      u.cutFrame.ft.cutting = none ∧ settings39.ringBase ≠ 0x1100) ∧
    ((bringing 0x1000 (some (0x0019, 13))).elapse [1]).sr.mirrorRest ≠ none ∧
    (let u := ({ cuttingBefore with sr := (bringing 0x1100 none).sr } : State).elapse [1]
     u.al.part = .running ∧ u.sr.pendingCopy.isSome = true ∧ u.cutFrame.ft.cutting ≠ none) := by
  decide +kernel

/-- R137, R145: the report of settings that come in force, and the ring-reset mark of a ring that moved. -/
theorem test_adoption_report :
    let t := after (.frameStart [] 1) (bringing 0x1100 none)
    let resets (s : State) := s.rw.queue.map (fun w => match w with
      | .opens n => n.ringReset
      | .record _ | .ends _ _ => false)
    t.ma.inflight = some { who := .settingsReader, addr := 0x000E, read := none } ∧
    (memRead t.mem 0x000E).data = 2 ∧
    t.sr.report = [(0x000F, 6), (0x000C, 0), (0x000D, 13), (0x0008, 3)] ∧ resets t = [true] ∧
    resets (after (.frameStart [] 1) (bringing 0x1000 none)) = [false] := by decide +kernel

/-- R3, R77, R139: the frame that new settings bring has their watchdog, and its due band the profile state LOADING
that a reload leaves. -/
theorem test_adoption_begins_a_frame :
    let new : Settings := { settings39 with profileReload := true, frameTimeout := 60000 }
    let t := after (.frameStart [] 1) { running with
      sr := { running.sr with pendingCopy := some { page := 2, seq := 6, settings := new } } }
    t.ft.watchdog = some 1060999 ∧ t.ft.t0 = 1000999 ∧ t.ft.frameNo = 13 ∧ t.ft.nextRelease = 1 ∧
    t.sr.exam = .readSelector 13 ∧
    (match t.be.engine with
     | .computing b => (b.snapshot.profile, b.snapshot.settings.frameTimeout, b.frameNo)
     | .idle | .handingOver _ _ => (.empty, 0, 0)) = (.loading, 60000, 13) := by decide +kernel

/-- `bringing` a UNIT, a LOST_MISSES and a LINK_RATE for the focus axis, its record as given. -/
def bringingFocus (unit lost : Nat) (rate : LinkRate) (r : AxisRec) : State :=
  let new : Settings :=
    { settings39 with linkRate := rate, focus := { focus39 with unit := unit, lostMisses := lost } }
  { running with
    axes := { running.axes with focus := r },
    sr := { running.sr with pendingCopy := some { page := 2, seq := 6, settings := new } } }

/-- R23, R24, R30, R37: AXIS for a LOST axis with a new unit, one past a lower LOST_MISSES, and a LOST one that a
change of rate starts again; not for a LOST axis that stays so. -/
theorem test_axis_cause_at_an_adoption :
    let gone : AxisRec := { live39 with st := .lost, misses := 4 }
    let raises (s : State) := (after (.frameStart [] 1) s).al.isSet .axis
    [raises (bringingFocus 2 3 .fast gone), raises (bringingFocus 1 2 .fast { live39 with misses := 2 }),
     raises (bringingFocus 1 3 .slow gone), raises (bringingFocus 1 3 .fast gone)] =
      [true, true, true, false] := by decide +kernel

theorem witness_FrameStartsThatBeginNoFrame :
    (halted.elapse [1]).al.part = .halted ∧
    (1 < (2 : Time).toNat ∧ (({ running with fi := { since := 0 } } : State).elapse []).fi.since < (1 : Time).toNat) ∧
    ((1 : Time).toNat ≤ 1 ∧ (1 : Time).toNat ≤ (armed.elapse [1]).fi.since) ∧
    (let u := armed.elapse [1]
     u.clk.resetn = true ∧ u.al.part = .armed ∧ u.sr.pendingCopy = none ∧ u.sr.inForce = none ∧
      u.sr.exam = .none) := by decide

theorem witness_CuttingAFrame :
    (∀ f, running.ft.current = some f → f.condition ≠ .opened) ∧
    (inFrame.ft.current = some frame13 ∧ frame13.condition = .opened ∧
      inFrame.be.engine.holds 13 = false ∧ inFrame.ft.cutting = none) ∧
    (Engine.holds (.computing band0) 13 = true) ∧
    (cuttingBefore.ft.current = some frame13 ∧ cuttingBefore.be.engine.holds 13 = false ∧
      cuttingBefore.ft.cutting ≠ none) :=
  ⟨nofun, by decide, by decide, by decide⟩

theorem witness_BandRows :
    1 ≤ wide.bands ∧ wide.bands ≤ wide.rows ∧ 7 < wide.bands := by decide

theorem settings39_legal : settings39.legal := by
  unfold Settings.legal AxisSettings.legal AxisSettings.apart
  repeat' apply And.intro
  all_goals decide

theorem witness_BandTimesRise : settings39.legal ∧ 0 < settings39.bands ∧ 1 < settings39.bands :=
  ⟨settings39_legal, by decide, by decide⟩

/-- Band 1 of frame 13 has its release at 1,004,200. -/
theorem witness_BandReleaseRaisesTheNextBand :
    let hyp (s : State) (dt : Span) : Prop :=
      (s.elapse dt).ft.current = some frame13 ∧ frame13.condition = .opened ∧
      frame13.table[(s.elapse dt).ft.nextRelease]? = some (bandTiming settings39.geometry 1000000 1)
    let at' := (bandTiming settings39.geometry 1000000 1).release
    (hyp inFrame [3200] ∧ reached (inFrame.elapse [3200]).clk.tb at' = true ∧
      (inFrame.elapse [3200]).be.engine = .idle) ∧
    (hyp cuttingBefore [3200] ∧ reached (cuttingBefore.elapse [3200]).clk.tb at' = true ∧
      (cuttingBefore.elapse [3200]).be.engine ≠ .idle) ∧
    (hyp inFrame [3199] ∧ reached (inFrame.elapse [3199]).clk.tb at' = false) := by decide +kernel

/-- The profile of section 3.9 with its CHECK formed. -/
def primed : List Word := profile39.set 2 (BitVec.ofNat 16 (65536 - wordSum profile39))

/-- A load of that profile in a phase, with the words fetched so far. -/
def loadAt (phase : LoadPhase) (words : List Word) : Load :=
  { base := 0x0800, serial := 0x00A37701, extent := some 49, phase := phase, detached := false,
    words := words, parityFailed := false }

/-- `inFrame` computing band 0, with a load in flight. -/
def computing (l : Option Load) : State :=
  { inFrame with
    be := { BandEngine.reset with engine := .computing band0 },
    pl := { ProfileLoader.reset with st := .loading, load := l } }

theorem witness_BandComputeEndHandsOver :
    (((computing none).elapse [12]).be.engine = .computing band0 ∧
      (∀ l, ((computing none).elapse [12]).pl.load = some l → l.phase ≠ .finishing)) ∧
    (let u := (computing (some (loadAt .finishing primed))).elapse [12]
     u.be.engine = .computing band0 ∧ u.pl.load = some (loadAt .finishing primed) ∧
      u.ms.mount = .present ∧ (loadAt .finishing primed).detached = false) :=
  ⟨⟨by decide, nofun⟩, by decide +kernel⟩

/-- The UNBOUND end: a load with the detach mark, and a mount that is ABSENT. -/
theorem witness_BandComputeEndHandsOver_unbound :
    let gone : Load := { loadAt .finishing primed with detached := true }
    let bare : State := { computing (some (loadAt .finishing primed)) with
      ms := { running.ms with mount := .absent } }
    (((computing (some gone)).elapse [12]).be.engine = .computing band0 ∧
      ((computing (some gone)).elapse [12]).pl.load = some gone ∧ gone.phase = .finishing ∧
      gone.detached = true) ∧
    ((bare.elapse [12]).be.engine = .computing band0 ∧
      (bare.elapse [12]).pl.load = some (loadAt .finishing primed) ∧
      (bare.elapse [12]).ms.mount = .absent) ∧
    (after (.bandComputeEnd [12]) bare).pl.st = .unbound := by decide +kernel

theorem witness_WatchdogExpiryLosesTheFrame :
    (running.elapse [39000]).ft.watchdog = some 1040000 ∧ (running.elapse [39000]).al.part = .running ∧
    reached (running.elapse [39000]).clk.tb 1040000 = true ∧
    reached (running.elapse [38999]).clk.tb 1040000 = false := by decide +kernel

/-! ### Records and slots -/

/-- `running` with the Record Writer free, an item waiting and a slot. -/
def writer (q : List WorkItem) (o : Option OpenSlot) : State :=
  { running with rw := { RecordWriter.reset with nextSlot := 3, queue := q, openSlot := o } }

theorem witness_SlotOpenNamesJudgesAndWrites :
    let u := (writer [.opens notice] none).elapse [1]
    u.rw.work = .none ∧ u.rw.queue = [.opens notice] ∧
    u.ma = { Arbiter.reset with clearHold := false, portHold := false } := by decide

theorem witness_RecordsAndClosesAreWritten :
    (let u := (writer [.record (item 0)] (some slot3)).elapse [1]
     u.rw.work = .none ∧ u.rw.queue = [.record (item 0)] ∧ u.rw.openSlot = some slot3) ∧
    (let u := (writer [.ends 13 false] (some slot3)).elapse [1]
     u.rw.work = .none ∧ u.rw.queue = [.ends 13 false] ∧ u.rw.openSlot = some slot3) := by decide

/-- Frame 13 with the record of a band granted and the engine handing it over. -/
def recordedAt (b : Nat) (cutting : Option (BitVec 32)) : State :=
  { inFrame with
    be := { BandEngine.reset with engine := .handingOver { band0 with band := b } blank },
    ft := { inFrame.ft with cutting := cutting, nextRelease := 2 },
    rw := { RecordWriter.reset with openSlot := some slot3, work := .recorded (item b) } }

theorem witness_RecordWrittenReturnsTheEngine :
    let hyp (s : State) (b : Nat) : Prop :=
      (s.elapse [1]).rw.work = .recorded (item b) ∧ (s.elapse [1]).rw.openSlot = some slot3 ∧
      (s.elapse [1]).be.engine = .handingOver { band0 with band := b } (item b).result ∧
      (s.elapse [1]).ft.current = some frame13 ∧ frame13.number = (item b).frameNo ∧
      frame13.condition = .opened ∧ (s.elapse [1]).ft.cutting = none
    let waiting : State := { recordedAt 0 none with
      ft := { (recordedAt 0 none).ft with released := [1] } }
    (hyp (recordedAt 1 none) 1 ∧ ((recordedAt 1 none).elapse [1]).ft.released = [] ∧
      1 + 1 = frame13.geom.bands) ∧
    (hyp (recordedAt 0 none) 0 ∧ ((recordedAt 0 none).elapse [1]).ft.released = [] ∧
      0 + 1 ≠ frame13.geom.bands) ∧
    (hyp waiting 0 ∧ (waiting.elapse [1]).ft.released = 1 :: [] ∧
      frame13.table[1]? = some (bandTiming settings39.geometry 1000000 1)) ∧
    (((recordedAt 0 (some 13)).elapse [1]).rw.work = .recorded (item 0) ∧
      ((recordedAt 0 (some 13)).elapse [1]).ft.cutting = some (item 0).frameNo ∧
      ((recordedAt 0 (some 13)).elapse [1]).ft.released = []) := by decide +kernel

/-- A LATE record, which the engine's own result does not show; and the last record of frame 12, CUTTING, with
band 0 of frame 13 waiting. -/
theorem witness_RecordWrittenReturnsTheEngine_late_and_cut :
    let late : RecordItem := { item 0 with
      result := { blank with flags := { blank.flags with late := true } } }
    let s : State := { recordedAt 0 none with
      rw := { RecordWriter.reset with openSlot := some slot3, work := .recorded late } }
    let cut : State := { inFrame with
      be := { BandEngine.reset with engine := .handingOver { band0 with frameNo := 12 } blank },
      ft := { inFrame.ft with cutting := some 12, released := [0], heldNotices := [.opens notice] },
      rw := { RecordWriter.reset with
        openSlot := some slot3, work := .recorded { item 0 with frameNo := 12 } } }
    ((s.elapse [1]).rw.work = .recorded late ∧ (s.elapse [1]).rw.openSlot = some slot3 ∧
      (s.elapse [1]).be.engine = .handingOver { band0 with band := 0 } blank ∧ late.result ≠ blank ∧
      (s.elapse [1]).ft.current = some frame13 ∧ late.frameNo = frame13.number) ∧
    ((cut.elapse [1]).rw.work = .recorded { item 0 with frameNo := 12 } ∧
      (cut.elapse [1]).ft.cutting = some 12 ∧ (cut.elapse [1]).ft.released = 0 :: [] ∧
      (cut.elapse [1]).ft.current = some frame13 ∧
      frame13.table[0]? = some (bandTiming settings39.geometry 1000000 0)) ∧
    (let t := after (.recordWritten [1]) cut
     t.be.engine.holds 13 = true ∧ t.rw.queue = [.ends 12 true, .opens notice] ∧ t.ft.cutting = none) := by
  decide +kernel

/-- The Record Writer's access before its last one is under way. -/
def lastGrant (k : RwWork) (o : Option OpenSlot) : State :=
  { running with
    rw := { RecordWriter.reset with nextSlot := 3, work := k, openSlot := o },
    ma := { halted.ma with inflight := some { who := .recordWriter, addr := 4247, read := none } } }

theorem witness_LastGrantsEndTheRecordWritersWork :
    ∀ k ∈ [RwWork.closing [(4240, 2)], .recording [(4240, 2)] (item 1), .opening [(4240, 2)]],
    let u := (lastGrant k (some slot3)).elapse [1]
    u.ma.inflight = some { who := .recordWriter, addr := 4247, read := none } ∧
    u.ma.clearHold = false ∧ u.ma.reqRw = none ∧ u.rw.work = k ∧ u.rw.openSlot = some slot3 := by decide

/-- R148, R149: at the grant of its TAG a record is recorded; after its last empty tag an open is over. -/
theorem test_last_grants :
    let t := after (.memoryAccessComplete []) (lastGrant (.recording [(4272, 0x0D01)] (item 1)) (some slot3))
    let o := after (.memoryAccessComplete []) (lastGrant (.opening [(4272, emptyTag)]) (some slot3))
    t.rw.work = .recorded (item 1) ∧ (memRead t.mem 4272).data = 0x0D01 ∧
    o.rw.work = .none ∧ o.rw.openSlot = some slot3 ∧ (memRead o.mem 4272).data = 0x00FF := by decide +kernel

/-! ### Settings, profile, mount -/

def examining (e : Examination) : State := { armed with sr := { halted.sr with exam := e } }

/-- Page A with the settings of section 3.9, PAGE_SEQ 5 and PAGE_CHECK formed (layout of R175). -/
def page39 : List Word :=
  let p : List Word :=
    [5, 0, 1000, 2, 2560, 200, 0, 4000, 1000, 0, 50000, 0x1000, 4, 0x0800, 0x00A3, 0x7701, 0, 1, 1,
     65535, 16384, 67, 13107, 2048, 192, 8192, 4000, 3, 4, 1, 1000, 30, 5] ++
    List.replicate 8 1 ++
    [1, 1, 0, 2, 2, 3, 1, 4, 0, 0, 0, 0, 16000, 24000, 0, 32000, 52000, 0, 48000, 65535] ++
    List.replicate 39 0 ++ [2, 2, 32768, 1, 1, 1, 1, 0] ++ List.replicate 27 0 ++
    [0, 2, 0, 1, 1, 1, 1, 0] ++ List.replicate 369 0
  p.set 1 (BitVec.ofNat 16 (65536 - wordSum p))

/-- R175: the fields of a page stand where the layout puts them, and each of them is legal in this page. -/
theorem test_page_layout : pageSettings page39 = settings39 ∧ rangeFailure page39 = none := by decide +kernel

/-- The page with some words changed and its PAGE_CHECK formed again. -/
def repaged (ws : List (Nat × Word)) : List Word :=
  let p := (ws.foldl (fun p w => p.set w.1 w.2) page39).set 1 0
  p.set 1 (BitVec.ofNat 16 (65536 - wordSum p))

/-- Each check of R128 to R134, with the code and the detail of the first that fails. -/
theorem test_refusals :
    let map : List (Nat × Word) := [(100, 1), (101, 1), (107, 2), (109, 0), (110, 0), (112, 9), (113, 1)]
    let r (ws : List (Nat × Word)) := (pageRefusal (repaged ws) (some (0x1080, 8))).map (fun r => (r.code, r.detail))
    pageRefusal (page39.set 1 0) none = some { code := 18, detail := wordSum (page39.set 1 0) } ∧
    r [(2, 15)] = some (19, 3) ∧ r [(3, 33)] = some (19, 4) ∧ r [(11, 0x04FF)] = some (20, 1) ∧
    r [(11, 0x5000), (13, 0x04FF)] = some (20, 2) ∧ r [(13, 0x1000)] = some (20, 3) ∧ r [] = some (20, 4) ∧
    r [(11, 0x5000), (53, 0)] = some (21, 39) ∧ r ([(11, 0x5000)] ++ map) = some (22, 1) ∧
    r ([(11, 0x5000), (101, 2)] ++ map.set 1 (101, 2)) = some (23, 2) ∧
    r [(11, 0x5000), (29, 0), (30, 383)] = some (24, 384) ∧
    r [(11, 0x5000), (29, 0), (30, 384)] = none := by decide +kernel

theorem witness_ExaminationReportsRefusesAndAccepts :
    (((examining (.found 1 5 true 12)).elapse [1]).sr.exam = .found 1 5 true 12 ∧
      ((examining (.found 3 0 false 12)).elapse [1]).sr.exam = .found 3 0 false 12 ∧
      (3 : Word) ≠ 1 ∧ (3 : Word) ≠ 2) ∧
    ((examining (.copying 1 5 [5] (some 0))).elapse [1]).sr.exam = .copying 1 5 [5] (some 0) ∧
    (((examining (.copying 1 5 (page39.set 1 0) none)).elapse [1]).sr.exam =
        .copying 1 5 (page39.set 1 0) none ∧
      (page39.set 1 0).length = 512 ∧ (pageRefusal (page39.set 1 0) none).isSome = true) ∧
    (((examining (.copying 1 5 page39 none)).elapse [1]).sr.exam = .copying 1 5 page39 none ∧
      page39.length = 512 ∧ pageRefusal page39 none = none) := by decide +kernel

/-- `running` with a load in flight and the engine IDLE. -/
def loading (l : Load) (m : Mount) : State :=
  { running with
    ms := { running.ms with mount := m },
    pl := { ProfileLoader.reset with st := .loading, load := some l } }

theorem witness_ProfileHeaderIsChecked :
    let hyp (l : Load) : Prop :=
      ((loading l .present).elapse [1]).pl.load = some l ∧ l.phase = .header ∧
      (l.parityFailed = true ∨ l.words.length = 7)
    let good := loadAt .header (primed.take 7)
    let wrong := { good with serial := 0x00A37702 }
    let areas := ((loading good .present).elapse [1]).ringAreas
    (hyp wrong ∧ headerFailure wrong ((loading wrong .present).elapse [1]).ringAreas = some .serial) ∧
    (hyp good ∧ headerFailure good areas = none) ∧
    headerFailure { good with parityFailed := true } areas = some .parity ∧
    headerFailure { good with base := 0x0FD0 } areas = some .layout ∧
    headerFailure { good with words := good.words.set 3 1 } areas = some .shape := by
  decide +kernel

/-- R76, R79: the spans a profile stays clear of, each from its own place. -/
theorem test_ring_areas :
    let at' (base : Nat) : BeginNotice := { notice with ringBase := base, bands := 1 }
    let s : State := { running with
      ft := { running.ft with heldNotices := [.opens (at' 0x6000)] },
      rw := { RecordWriter.reset with
        openSlot := some slot3, work := .judged (at' 0x4000) 0 0x4000 false,
        queue := [.ends 12 false, .opens (at' 0x5000)] } }
    s.ringAreas = [(0x1000, 192), (0x1000, 192), (0x4000, 128), (0x5000, 128), (0x6000, 128)] := by decide

/-- The same while a band is being handed over. -/
def handing (l : Load) (m : Mount) : State :=
  { loading l m with be := { BandEngine.reset with engine := .handingOver band0 blank } }

theorem witness_ProfileBodyIsChecked :
    let hyp (s : State) (l : Load) : Prop :=
      (s.elapse [1]).pl.load = some l ∧ l.phase = .body ∧
      (l.parityFailed = true ∨ some l.words.length = l.extent)
    let good := loadAt .body primed
    let wrong := loadAt .body profile39
    (hyp (loading wrong .present) wrong ∧ bodyFailure wrong = some .check) ∧
    (hyp (computing (some good)) good ∧ bodyFailure good = none ∧
      ((computing (some good)).elapse [1]).be.engine = .computing band0) ∧
    (hyp (loading good .present) good ∧ bodyFailure good = none ∧
      ((loading good .present).elapse [1]).be.engine = .idle ∧
      ((loading good .present).elapse [1]).ms.mount = .present ∧ good.detached = false) ∧
    (hyp (loading good .absent) good ∧ ((loading good .absent).elapse [1]).be.engine = .idle ∧
      ((loading good .absent).elapse [1]).ms.mount = .absent) ∧
    (∀ b : Bool, ∀ m ∈ [Mount.present, .absent],
     let s : State := handing { good with detached := b } m
     hyp s { good with detached := b } ∧ (s.elapse [1]).be.engine = .handingOver band0 blank ∧
      (s.elapse [1]).ms.mount = m) ∧
    bodyFailure { good with parityFailed := true } = some .parity ∧
    bodyFailure (loadAt .body (primed.set 9 0)) = some .shape ∧
    bodyFailure (loadAt .body (primed.set 17 8191)) = some .range := by decide +kernel

/-- R12, R82: a load that ends while a band is handed over enters READY at once, and that band refills no held value. -/
theorem test_body_while_handing_over :
    let t := after (.profileBodyFetched [1]) (handing (loadAt .body primed) .present)
    t.pl.st = .ready ∧ t.pl.store = primed ∧ t.be.held = Held.none ∧
    t.be.engine = .handingOver { band0 with stale := true } blank ∧
    (after (.profileBodyFetched [1]) (handing (loadAt .body primed) .absent)).pl.st = .unbound := by
  decide +kernel

/-- A word fetched for a load in flight, or for one that was abandoned. -/
def fetched (awaiting : Bool) (v : Stored) : State :=
  let s := loading (loadAt .header []) .present
  { s with
    pl := { s.pl with awaiting := awaiting },
    ma := { halted.ma with inflight := some { who := .profileLoader, addr := 0x0800, read := some v } } }

theorem witness_ProfileLoaderAdoptsAndFetches :
    let other (base : Nat) (serial : BitVec 32) : Prop :=
      settings39.profileBase ≠ base ∨ settings39.profileSerial ≠ serial
    let held (st : ProfileState) : ProfileLoader := { running.pl with st := st }
    let loads (p : LoadPhase) := (loading (loadAt p primed) .present).pl
    ((held .empty).st = .empty ∧ (held .faulted).st = .faulted ∧
      ({ settings39 with profileReload := true } : Settings).profileReload = true) ∧
    ((held .ready).loaded = some ⟨0x0800, 0x00A37701, 49⟩ ∧ other 0x0801 0x00A37701 ∧
      ¬ other 0x0800 0x00A37701 ∧ settings39.profileReload = false) ∧
    (running.ms.mount = .present ∧ (loading (loadAt .body primed) .absent).ms.mount = .absent) ∧
    ((loads .body).st = .loading ∧ (loads .body).load = some (loadAt .body primed) ∧
      (loadAt .body primed).extent = some 49) ∧
    ¬ (0x0800 < settings39.ringBase + settings39.ringSlots * (16 + 16 * settings39.bands) ∧
      settings39.ringBase < 0x0800 + 49) ∧
    (∀ b : Bool, ∀ v ∈ [Stored.fresh 7, Stored.disturbed 7],
      ((fetched b v).elapse [1]).ma.inflight =
        some { who := .profileLoader, addr := 0x0800, read := some v } ∧
      ((fetched b v).elapse [1]).pl.awaiting = b ∧
      ((fetched b v).elapse [1]).pl.load = some (loadAt .header [])) ∧
    (∀ l ∈ [loadAt .header (primed.take 6), loadAt .header (primed.take 7), loadAt .body (primed.take 48),
            loadAt .body primed, loadAt .finishing primed],
      (loading l .present).ma.free .profileLoader = true ∧ (loading l .present).pl.load = some l) := by
  decide +kernel

/-- R79, R80: the loader asks for the word after those fetched, from the base on. -/
theorem test_profile_reads :
    let asks (p : LoadPhase) (n : Nat) :=
      ((loading (loadAt p (primed.take n)) .present).presentPl.ma.reqPl.map Request.addr)
    [asks .header 0, asks .header 6, asks .header 7, asks .body 7, asks .body 48, asks .body 49] =
      [some 0x0800, some 0x0806, none, some 0x0807, some 0x0830, none] := by decide +kernel

/-- `halted` with a mount, a last raw sample and the sample due at 8,000. -/
def mounted (m : Mount) (last : Option Level) : State :=
  { halted with ms := { mount := m, lastRaw := last, timer := 8000 } }

theorem witness_MountSampleDebouncesTheMount :
    reached ((mounted .absent none).elapse [7999]).clk.tb 8000 = false ∧
    (let u := (mounted .absent none).elapse [8000]
     u.clk.resetn = true ∧ reached u.clk.tb u.ms.timer = true ∧ u.ms.lastRaw = none) ∧
    (let u := (mounted .absent (some .high)).elapse [8000]
     u.ms.lastRaw = some .high ∧ u.ms.mount = .absent) ∧
    (let u := (mounted .present (some .low)).elapse [8000]
     u.ms.lastRaw = some .low ∧ u.ms.mount = .present ∧ u.lc.st = .off) ∧
    (let u := (mounted .present (some .high)).elapse [8000]
     u.ms.lastRaw = some .high ∧ Level.low ≠ Level.high) ∧
    (∀ st ∈ [LinkState.stuck, .breakTx, .breakRx, .idle, .awaitReply], ∀ done : Bool,
      let s := linkAt st 1001000 (if st = .awaitReply then some waited else none)
      let u := ({ s with
        lc := { s.lc with breakOver := done, breakEnd := if done then none else some 1001020 },
        ms := { mount := .present, lastRaw := some .low, timer := 1001000 } } : State).elapse []
      u.clk.resetn = true ∧ reached u.clk.tb u.ms.timer = true ∧ u.ms.lastRaw = some .low ∧
      u.ms.mount = .present ∧ u.lc.st = st ∧ u.lc.breakOver = done ∧ (u.lc.breakEnd = none ↔ done = true) ∧
      u.lc.waiting = none ∧ u.sr.inForce = some adopted ∧
      u.lc.trans = (if st = .awaitReply then some waited else none)) := by decide +kernel

/-! ### Axes and the link -/

/-- `running` with a blanking of the focus axis. -/
def blanked (b : Blanking) : State :=
  { running with axes := { running.axes with focus := { live39 with blanking := b } } }

theorem witness_BlankingExpiryEndsBlanking :
    (((blanked (.until 1006000)).elapse [5000]).axes.focus.blanking = .until 1006000 ∧
      reached ((blanked (.until 1006000)).elapse [5000]).clk.tb 1006000 = true) ∧
    reached ((blanked (.until 1006000)).elapse [4999]).clk.tb 1006000 = false ∧
    ((blanked (.pending 5)).elapse [5000]).axes.focus.blanking = .pending 5 := by decide +kernel

/-- R24, R139: a blanking pending since before a frame start keeps the BLANK_TIME it began with, here 7 ms. -/
theorem test_blank_time_kept :
    let s := { blanked (.pending 7) with
      lc := { running.lc with
        st := .breakRx, tick := none, dominant := some { length := 20, bound := true } } }
    (after (.sensedBreakEnd [9]) s).axes.focus.blanking = .until 1008009 ∧
    (after (.frameStart [9] 1) { s with sr := (bringing 0x1000 none).sr }).axes.focus.blanking =
      .pending 7 := by decide +kernel

theorem witness_GoodReplyAdvancesAnAxis :
    live39.track.length ≤ trackCap .focus ∧ live39.st = .live ∧
    live39.track.getLast? = some ⟨1008500, 15600⟩ ∧ later 1008501 1008500 = true ∧
    later 1008500 1008500 = false ∧ (AxisRec.ofMode .track).st = .seeking ∧
    (AxisRec.ofMode .track).track = [] ∧
    ({ AxisRec.idle with st := .qualifying } : AxisRec).st = .qualifying ∧
    (running.sr.inForce = some adopted ∧ (adopted.settings.axis .focus).mode = .track ∧
      (adopted.settings.axis .focus).unit = 1) := by decide

theorem witness_BadCompletionCountsAMiss :
    (Completion.noReply = .noReply ∨ Completion.noReply = .checkFault) ∧
    ({ live39 with blanking := .pending 5 } : AxisRec).blanking ≠ .notBlanking ∧
    live39.blanking = .notBlanking := by decide

/-- `running` with a schedule that names no TRACK axis in the slot at the pointer. -/
def unscheduled : State :=
  { running with
    sr := { running.sr with
      inForce := some { adopted with settings := { settings39 with
        schedule := List.replicate 8 (some .iris) } } } }

/-- The link in a state with its transaction, and the MARK that waits. -/
def skipping (st : LinkState) (m : Option Transaction) (w : Option (Axis × Nat)) : State :=
  let s := linkAt st 1001000 m
  { s with lc := { s.lc with waiting := w } }

/-- The tick on a free link, and at the slot of no TRACK axis. -/
theorem witness_MarkTickStartsOrSkipsAMark :
    (let u := running.elapse []
     u.lc.tick = some 1001000 ∧ reached u.clk.tb 1001000 = true ∧ u.sr.inForce = some adopted ∧
      u.lc.waiting = none ∧ u.lc.st = .idle ∧
      adopted.settings.schedule[u.lc.pointer]? = some (some .focus) ∧
      (adopted.settings.axis .focus).mode = .track) ∧
    (let u := unscheduled.elapse []
     u.lc.tick = some 1001000 ∧ u.lc.waiting = none ∧ u.lc.st = .idle ∧
      (List.replicate 8 (some Axis.iris))[u.lc.pointer]? = some (some .iris) ∧
      (settings39.axis .iris).mode ≠ .track) := by decide +kernel

/-- The tick in another node's frame: its dominant LEAD, later in it, and its reply. -/
theorem witness_MarkTickStartsOrSkipsAMark_received :
    let answered : RxFrame := { foreign with replied := true }
    ∀ c ∈ [(foreign, Level.low), (foreign, .high), (answered, .low)],
     let u := (reads .receiving none (some c.1) 2 [false, false] c.2 2).elapse []
     u.lc.tick = some 1001000 ∧ u.lc.waiting = none ∧ u.lc.st = .receiving ∧ u.lc.rx = some c.1 ∧
      u.lc.reading = some { start := 1000998, bits := [false, false] } ∧ u.wire.level = c.2 ∧
      u.sr.inForce = some adopted := by decide +kernel

/-- The tick in the part's own transaction, with no MARK waiting, with one that its axis takes, and with one whose
unit or mode has changed. -/
theorem witness_MarkTickStartsOrSkipsAMark_own :
    ∀ st ∈ [LinkState.sending, .awaitReply, .receiving],
    ∀ w ∈ [none, some (Axis.focus, 1), some (.focus, 2), some (.iris, 2)],
     let u := (skipping st (some mark) w).elapse []
     u.lc.tick = some 1001000 ∧ reached u.clk.tb 1001000 = true ∧ u.sr.inForce = some adopted ∧
      u.lc.waiting = w ∧ u.lc.st = st ∧ u.lc.rx = none ∧
      (adopted.settings.axis .focus).unit = 1 ∧ (adopted.settings.axis .iris).mode ≠ .track := by
  decide +kernel

/-- R100, R108, R111: a MARK due in the reply of another node's MARK waits; one due in its LEAD joins. -/
theorem test_mark_due_in_a_reply :
    let due (replied : Bool) := after (.markTick [])
      (reads .receiving none (some { foreign with replied := replied }) 2 [false, false] .low 2)
    (due true).lc.st = .receiving ∧ (due true).lc.waiting = some (.focus, 1) ∧
    (due false).lc.st = .sending ∧ (due false).lc.waiting = none := by decide +kernel

/-- R25, R110: SKIPPED is taken by an axis still of its mode and unit only. -/
theorem test_skipped :
    let completion (w : Axis × Nat) :=
      (after (.markTick []) (skipping .sending (some mark) (some w))).axes.focus.lastCompletion
    completion (.focus, 1) = .skipped ∧ completion (.focus, 2) = .none := by decide +kernel

/-- The MARK in flight at 250 kbit/s, at its LEAD's falling edge. -/
def slowMark : State :=
  let s := reads .sending (some mark) none 0 [] .high 9
  { s with sr := { s.sr with inForce := some { adopted with settings := { settings39 with linkRate := .slow } } } }

/-- R97, R113: a level that begins in END-OF-DATA, after its last bit was read, is bound from its start and a break
at 16 bit times; one that begins at the window's opening is a REPLY-LEAD. -/
theorem test_low_across_end_of_data :
    let t := after (.endOfData [119, 1]) slowMark
    t.lc.dominant = some { length := 1, bound := true } ∧
    (after (.breakRecognised [63] 64) t).lc.st = .breakRx ∧
    (after (.breakRecognised [63] 64) t).axes.focus.lastCompletion = .broken ∧
    ((after (.endOfData [120, 0]) slowMark).lc.dominant.map (·.bound)) = some false := by decide +kernel

/-- The reply window before its close, and at its close for an axis that has changed its unit or its mode. -/
theorem witness_EndOfDataAndReplyWindow_discarded :
    let m (x : Axis) (unit : Nat) : Transaction := { waited with axis := x, unit := unit }
    ∀ c ∈ [(3, m .focus 1), (4, m .focus 2), (4, m .iris 2)],
     let u := (linkAt .awaitReply 1001000 (some c.2)).elapse [c.1]
     u.lc.trans = some c.2 ∧ u.sr.inForce = some adopted ∧ u.lc.st = .awaitReply ∧
      c.2.windowAt = some 1001000 ∧
      reached u.clk.tb (1001000 + micros (4 * u.rate.tau)) = decide (c.1 = 4) ∧
      (c.1 = 4 → ¬ ((adopted.settings.axis c.2.axis).mode = .track ∧
        (adopted.settings.axis c.2.axis).unit = c.2.unit)) := by decide +kernel

/-- R25: NO_REPLY is taken by an axis still on its unit only; the link is free in both. -/
theorem test_no_reply_discarded :
    let ends (n : Nat) :=
      after (.replyWindowClose [4]) (linkAt .awaitReply 1001000 (some { waited with unit := n }))
    ((ends 1).axes.focus.lastCompletion, (ends 1).axes.focus.misses, (ends 1).lc.st) = (.noReply, 1, .idle) ∧
    ((ends 2).axes.focus, (ends 2).lc.st, (ends 2).lc.trans) = (live39, .idle, none) := by decide +kernel

theorem witness_EndOfDataAndReplyWindow :
    let s := reads .sending (some mark) none 0 [] .high 9
    let hyp (u : State) (n : Nat) (lv : Level) : Prop :=
      u.lc.trans = some mark ∧ u.sr.inForce = some adopted ∧ u.lc.st = .sending ∧
      u.lc.reading.map (·.bits) = some ((markBits 1 5).take n) ∧
      u.into { start := 1001000, bits := [] } = n ∧ u.wire.level = lv
    (hyp (s.elapse [30]) 30 .high ∧ hyp (s.elapse [30, 0]) 30 .low ∧ hyp (s.elapse [29]) 29 .high) ∧
    (let u := slowMark.elapse [119, 1]
     u.lc.st = .sending ∧ u.lc.reading.map (·.bits) = some (markBits 1 5) ∧ u.rate.tau = 4 ∧
      u.into { start := 1001000, bits := [] } = 120 ∧ u.wire.level = .low ∧ u.wire.age = 1) ∧
    (let u := (linkAt .awaitReply 1001000 (some waited)).elapse [4]
     u.lc.trans = some waited ∧ u.sr.inForce = some adopted ∧ u.lc.st = .awaitReply ∧
      waited.windowAt = some 1001000 ∧ waited.code = .ok ∧
      reached u.clk.tb (1001000 + micros (4 * u.rate.tau)) = true ∧
      (adopted.settings.axis waited.axis).mode = .track ∧
      (adopted.settings.axis waited.axis).unit = waited.unit) ∧
    (let w := linkAt .awaitReply 1001004 (some waited)
     w.clk.resetn = true ∧ w.wire.level = .high ∧ w.lc.st = .awaitReply ∧ w.lc.trans = some waited ∧
      later w.clk.tb (1001000 + micros (4 * w.rate.tau)) = false ∧
      later 1001005 (1001000 + micros (4 * w.rate.tau)) = true) := by decide +kernel

theorem witness_ReplyReceivedIsChecked :
    let bits := [false] ++ [(0x00 : Byte), 0x9C, 0x40, 0x00, 0xDC].flatMap byteBits
    (let u := (reads .receiving (some waited) none 41 bits .low 1).elapse []
     u.lc.trans = some waited ∧ u.lc.st = .receiving ∧ waited.interpreted = true ∧
      waited.reply = none ∧ waited.code = .ok ∧
      u.lc.reading = some { start := 1000959, bits := bits } ∧ 41 ≤ bits.length ∧
      (bits.drop 1).take 40 = [(0x00 : Byte), 0x9C, 0x40, 0x00, 0xDC].flatMap byteBits) ∧
    (bits.take 40).length < 41 := by decide +kernel

theorem witness_TransactionEndDeliversOk :
    let hyp (m : Transaction) (u : State) : Prop :=
      u.lc.trans = some m ∧ u.lc.st = .receiving ∧ u.sr.inForce = some adopted
    let whole := (reads .receiving (some replied) none 47 [] .high 6).elapse []
    let broken : Transaction := { replied with interpreted := false, code := .framing }
    let cut := (reads .receiving (some broken) none 47 [] .high 6).elapse []
    let early := (reads .receiving (some replied) none 46 [] .high 5).elapse []
    let moved : Transaction := { replied with unit := 2 }
    (hyp replied whole ∧ replied.code = .ok ∧ replied.sampleTime = some 1000970 ∧
      replied.reply = some (40000, 0) ∧ (adopted.settings.axis replied.axis).mode = .track ∧
      (adopted.settings.axis replied.axis).unit = replied.unit ∧ replied.interpreted = true ∧
      47 * whole.rate.tau ≤ whole.into { start := 1000953, bits := [] } ∧
      whole.into { start := 1000953, bits := [] } ≤ whole.recessive + 41 * whole.rate.tau) ∧
    (hyp broken cut ∧ broken.interpreted = false ∧ 6 * cut.rate.tau ≤ cut.recessive) ∧
    (hyp moved ((reads .receiving (some moved) none 47 [] .high 6).elapse []) ∧
      (adopted.settings.axis moved.axis).unit ≠ moved.unit) ∧
    (hyp replied early ∧ early.into { start := 1000954, bits := [] } < 47 * early.rate.tau) := by
  decide +kernel

theorem witness_ArbitrationAndBitFaults :
    (∀ i ∈ [3, 5, 8, 11, 17, 28, 29],
     let bits := (markBits 1 5).take i ++ [false]
     let u := (reads .sending (some mark) none (i + 1) bits .low 1).elapse []
     u.lc.trans = some mark ∧ u.lc.st = .sending ∧ u.sr.inForce = some adopted ∧ mark.code = .ok ∧
      u.lc.reading.map (·.bits) = some bits ∧ bits.take i = (markBits 1 5).take i ∧
      (markBits 1 5)[i]? = some true ∧ bits[i]? = some false) ∧
    ((adopted.settings.axis mark.axis).mode = .track ∧
      (adopted.settings.axis mark.axis).unit = mark.unit) := by decide +kernel

theorem witness_FramesOfOtherNodes :
    let hyp (f : RxFrame) (bits : List Bool) (u : State) : Prop :=
      u.lc.st = .receiving ∧ u.lc.trans = none ∧ u.lc.rx = some f ∧
      u.lc.reading.map (·.bits) = some bits
    let at' (f : RxFrame) (n : Nat) (bits : List Bool) (lv : Level) (age : Nat) : State :=
      (reads .receiving none (some f) n bits lv age).elapse []
    let answered : RxFrame := { foreign with replied := true }
    let dead : RxFrame := { foreign with interpreted := false }
    ((running.elapse [1]).lc.st = .idle ∧ (running.elapse [1]).wire.level = .high ∧
      (running.elapse [1, 3]).lc.st = .idle ∧ (running.elapse [1, 3]).wire.level = .low) ∧
    (hyp foreign [false, true] (at' foreign 2 [false, true] .high 1) ∧
      ¬ [false, true].take 4 <+: [false, false, false, true]) ∧
    -- header 0x81: an unused kind, address 0, length 1
    (let bits := frameBits [0x81]
     hyp foreign bits (at' foreign 12 bits .low 1) ∧
      bits.take 12 = [false, false, false, true] ++ byteBits 0x81 ∧
      2 ≤ (BitVec.extractLsb' 6 2 (0x81 : Byte)).toNat ∧
      (at' foreign 12 bits .low 1).into { start := 1000988, bits := [] } < 28 ∧
      (at' foreign 34 bits .high 6).into { start := 1000966, bits := [] } = 34 ∧
      (at' foreign 34 bits .high 6).recessive = 6 ∧ (at' foreign 29 bits .low 1).wire.level = .low) ∧
    (hyp answered [] (at' answered 47 [] .high 6) ∧ hyp answered [] (at' answered 42 [] .low 1)) ∧
    (hyp dead [] (at' dead 9 [] .high 6) ∧ (at' dead 9 [] .high 6).recessive = 6 ∧
      (at' dead 9 [] .high 5).recessive = 5) ∧
    (let u := (reads .receiving (some replied) none 42 [] .low 1).elapse []
     u.lc.trans = some replied ∧ replied.interpreted = true ∧ replied.reply ≠ none ∧
      u.into { start := 1000958, bits := [] } = 42) := by decide +kernel

/-- The REPLY-LEAD of another node's MARK at the first and the last moment of its window. -/
theorem witness_FramesOfOtherNodes_reply :
    ∀ n ∈ [30, 34],
      let s := reads .receiving none (some foreign) n (frameBits [0x51, 7, 0]) .high (n - 28)
      s.clk.resetn = true ∧ s.wire.level = .high ∧ s.lc.rx = some foreign ∧ foreign.replied = false ∧
      (frameBits [0x51, 7, 0]).take 12 = [false, false, false, true] ++ byteBits 0x51 ∧
      BitVec.extractLsb' 6 2 (0x51 : Byte) = 1 ∧ (BitVec.extractLsb' 0 3 (0x51 : Byte)).toNat = 1 ∧
      s.into { start := 1001000 - micros n, bits := [] } = n ∧ s.recessive = n - 28 := by decide +kernel

/-- NOTEs of the worked REZERO kind from unit 1, of one and of four data bytes, their END-OF-FRAME complete. -/
theorem witness_NoteReceivedIsJudged :
    (∀ d ∈ [((0x09 : Byte), [(3 : Byte)]), (0x0C, [3, 0x00, 0x9C, 0x40]), (0x0A, [3, 1]), (0x09, [4])],
     let row := frameBits (d.1 :: d.2 ++ [crc8 (d.1 :: d.2)])
     let u := (reads .receiving none (some foreign) (26 + 8 * d.2.length) row .high 6).elapse []
     u.lc.st = .receiving ∧ u.lc.trans = none ∧ u.lc.rx = some foreign ∧
      u.lc.reading = some { start := 1001000 - micros (26 + 8 * d.2.length), bits := row } ∧
      d.1.extractLsb' 6 2 = 0 ∧ (d.1.extractLsb' 0 3).toNat = d.2.length ∧
      row.take (20 + 8 * d.2.length) = row ∧
      u.into { start := 1001000 - micros (26 + 8 * d.2.length), bits := row } = 26 + 8 * d.2.length ∧
      u.recessive = 6) ∧
    (running.mode .focus = .track ∧ running.unit .focus = 1) := by decide +kernel

/-- R35, R107: the REZERO NOTE with a position. -/
theorem test_note_position :
    let d : List Byte := [3, 0x00, 0x9C, 0x40]
    let row := frameBits (0x0C :: d ++ [crc8 (0x0C :: d)])
    let t := after (.noteReceived [] 0x0C d (crc8 (0x0C :: d)))
      (reads .receiving none (some foreign) 58 row .high 6)
    t.axes.focus.st = .qualifying ∧ t.axes.focus.lastPos = 40000 ∧ t.lc.st = .idle := by decide +kernel

/-- The link in a break, with its measure, its release and whether it has ended, on a wire at a level. -/
def breaking (st : LinkState) (d : Option Nat) (e : Option Time) (done : Bool) (lv : Level) (age : Nat) : State :=
  { running with
    lc := { running.lc with
      st := st, tick := none, dominant := d.map (fun n => { length := n, bound := true }), breakEnd := e,
      breakOver := done },
    wire := { level := lv, age := age, own := age + 1 } }

/-- A link with no transaction and the MARK of an axis waiting behind another node's frame, its own still, or not. -/
theorem witness_a_waiting_MARK_in_a_break :
    ∀ w ∈ [(Axis.focus, 1), (.focus, 2), (.iris, 2)],
     let b := breaking .receiving (some 12) none true .low 12
     let u := ({ b with lc := { b.lc with
       waiting := some w, rx := some { foreign with interpreted := false } } } : State).elapse [4]
     let d := linkAt .receiving 1001000 none
     let v := ({ d with
       lc := { d.lc with waiting := some w, rx := some foreign },
       ms := { mount := .present, lastRaw := some .low, timer := 1001000 } } : State).elapse []
     (u.lc.st = .receiving ∧ u.lc.trans = none ∧ u.lc.waiting = some w ∧ u.wire.level = .low ∧
      u.held = 16 ∧ u.lc.dominant = some { length := 16, bound := true }) ∧
     (v.clk.resetn = true ∧ reached v.clk.tb v.ms.timer = true ∧ v.ms.lastRaw = some .low ∧
      v.ms.mount = .present ∧ v.lc.st = .receiving ∧ v.lc.trans = none ∧ v.lc.waiting = some w) := by
  decide +kernel

/-- R25, R114, R116: a waiting MARK takes BREAK, from a break or a detach, for an axis still of its unit. -/
theorem test_waiting_mark_is_broken :
    let ends (c : Instr) (s : State) (n : Nat) :=
      (after c { s with lc := { s.lc with waiting := some (.focus, n) } }).axes.focus.lastCompletion
    let held := breaking .idle (some 16) none true .low 16
    let gone : State := { linkAt .idle 1001000 none with
      ms := { mount := .present, lastRaw := some .low, timer := 1001000 } }
    [ends (.breakRecognised [] 16) held 1, ends (.breakRecognised [] 16) held 2,
     ends (.mountSample [] .low) gone 1, ends (.mountSample [] .low) gone 2] =
      [.broken, .none, .broken, .none] := by decide +kernel

/-- A transaction in a break, its axis still its own, or not. -/
theorem witness_a_transaction_in_a_break :
    ∀ st ∈ [LinkState.sending, .awaitReply, .receiving],
    ∀ m ∈ [waited, { waited with unit := 2 }, { waited with axis := .iris }],
     let b := breaking st (some 12) none false .low 12
     let u := ({ b with lc := { b.lc with trans := some m } } : State).elapse [4]
     u.lc.st = st ∧ u.lc.trans = some m ∧ u.wire.level = .low ∧ u.held = 16 ∧
      u.lc.dominant = some { length := 16, bound := true } := by decide +kernel

/-- R25, R114: BREAK of a transaction in flight is taken by an axis still on its unit only. -/
theorem test_transaction_is_broken :
    let b := breaking .awaitReply (some 16) none false .low 16
    let ends (n : Nat) :=
      after (.breakRecognised [] 16) { b with lc := { b.lc with trans := some { waited with unit := n } } }
    ((ends 1).axes.focus.lastCompletion, (ends 1).axes.focus.st, (ends 1).lc.st) = (.broken, .seeking, .breakRx) ∧
    ((ends 2).axes.focus.lastCompletion, (ends 2).axes.focus.st, (ends 2).lc.st, (ends 2).lc.trans) =
      (.none, .seeking, .breakRx, none) := by decide +kernel

theorem witness_BreaksBeginAndEnd :
    (∀ st ∈ [LinkState.idle, .breakRx, .breakTx],
     let u := (breaking st (some 12) none true .low 12).elapse [4]
     u.lc.st = st ∧ u.lc.trans = none ∧ u.wire.level = .low ∧ u.held = 16 ∧
      u.lc.breakOver = true ∧ u.lc.dominant = some { length := 16, bound := true } ∧
      (16 : Time).toNat = u.held) ∧
    ((breaking .idle (some 12) none false .low 12).elapse [3]).held = 15 ∧
    (let u := (breaking .breakRx (some 2047) none false .high 1).elapse []
     u.lc.st = .breakRx ∧ u.lc.breakOver = false ∧
      u.lc.dominant = some { length := 2047, bound := true } ∧ u.wire.level = .high) ∧
    (∀ lv ∈ [Level.low, Level.high],
     let u := (breaking .breakTx none (some 1001040) false lv 9).elapse [40]
     u.lc.st = .breakTx ∧ u.lc.breakEnd = some 1001040 ∧ reached u.clk.tb 1001040 = true ∧
      u.wire.level = lv) ∧
    (let u := (linkAt .awaitReply 1001000 (some waited)).elapse [5, 16]
     u.lc.st = .awaitReply ∧ u.lc.trans = some waited ∧ u.sr.inForce = some adopted ∧
      u.wire.level = .low ∧ u.held = 16 ∧ u.atBound = true ∧
      (adopted.settings.axis waited.axis).mode = .track ∧
      (adopted.settings.axis waited.axis).unit = waited.unit) := by decide +kernel

/-- The positions of frames being read, and a level on the wire. -/
theorem witness_BreaksBeginAndEnd_positions :
    (let s := reads .sending (some mark) none 4 [] .high 1
     s.lc.st = .sending ∧ s.lc.trans ≠ none ∧ s.atBound = false ∧
      (reads .sending (some mark) none 28 [] .high 1).atBound = true) ∧
    ((reads .receiving (some waited) none 40 [] .low 1).atBound = false ∧
      (reads .receiving (some waited) none 41 [] .low 1).atBound = true) ∧
    (let bits := frameBits [0x09]
     bits.take 12 = [false, false, false, true] ++ byteBits 0x09 ∧
      (reads .receiving none (some foreign) 27 bits .low 1).atBound = false ∧
      (reads .receiving none (some foreign) 28 bits .low 1).atBound = true) ∧
    ([false, false, false, true].take 4 <+: [false, false, false, true] ∧
      (reads .receiving none (some foreign) 5 [false, false, false, true] .low 1).atBound = false) ∧
    (running.clk.resetn = true ∧ running.lc.st ≠ .off ∧ running.wire.level = .high ∧
      ((running.elapse [1, 1]).pass 3).wire.level = .low ∧ running.lc.reading = none) := by decide +kernel

theorem witness_LinkIsFreeAfterABreak :
    let s := breaking .breakRx none none true .high 0
    let owing : State := { s with lc := { s.lc with owed := true } }
    ((s.elapse [6]).lc.st = .breakRx ∧ (s.elapse [6]).lc.breakOver = true ∧
      6 * (s.elapse [6]).rate.tau ≤ (s.elapse [6]).recessive ∧ (s.elapse [6]).lc.owed = false) ∧
    ((owing.elapse [6]).lc.owed = true ∧ (owing.elapse [6]).lc.trans = none ∧
      (owing.elapse [6]).lc.waiting = none) ∧
    (s.elapse [5]).recessive < 6 * (s.elapse [5]).rate.tau ∧
    -- a short level in the wait starts it afresh
    (s.elapse [5, 2, 5]).recessive = 5 := by decide +kernel

/-- `slowMark` with bits read back, on a wire at a level. -/
def sendingBits (bits : List Bool) (lv : Level) : State :=
  { slowMark with
    lc := { slowMark.lc with reading := some { start := 1001000, bits := bits } },
    wire := { level := lv, age := 9, own := 0 } }

/-- A break it sends before and at its end, a MARK read back right on a recessive and on a dominant wire and one
misread, and a link that drives nothing. -/
theorem witness_LinkIsFreeAfterABreak_own :
    let sent := markBits 1 5
    (let s := breaking .breakTx none (some 1001040) false .high 9
     s.clk.resetn = true ∧ s.lc.st = .breakTx ∧ s.lc.breakEnd = some 1001040 ∧
      reached (s.clk.tb + 39) 1001040 = false ∧ reached (s.clk.tb + 45) 1001040 = true) ∧
    (∀ bits ∈ [[], sent.take 4, sent.take 4 ++ [true]], ∀ lv ∈ [Level.high, .low],
     let s := sendingBits bits lv
     s.clk.resetn = true ∧ s.lc.st = .sending ∧ s.lc.trans = some mark ∧
      s.lc.reading = some { start := 1001000, bits := bits }) ∧
    ((sent.take 4).take 30 = sent.take 4 ∧ sent[4]? = some false ∧ sent[5]? = some true ∧
      (sent.take 4 ++ [true]).take 4 = sent.take 4 ∧ (sent.take 4 ++ [true])[4]? = some true) ∧
    (running.clk.resetn = true ∧ running.lc.st = .idle) := by decide +kernel

/-- R113: since when the part has not driven the wire dominant: its LEAD ends 12 µs after its edge, the run of 0 bits
that a dominant wire follows 4 µs after that, and a MARK misread there is driven no more. -/
theorem test_own_driving :
    let sent := markBits 1 5
    let own (s : State) (d : Time) := (s.pass d).wire.own
    let sends := breaking .breakTx none (some 1001040) false .high 9
    [own sends 39, own sends 45, own running 7] = [0, 5, running.wire.own + 7] ∧
    [own (sendingBits [] .high) 5, own (sendingBits [] .high) 14] = [0, 2] ∧
    [own (sendingBits (sent.take 4) .high) 27, own (sendingBits (sent.take 4) .low) 27,
     own (sendingBits (sent.take 4 ++ [true]) .high) 27] = [0, 7, 15] := by decide +kernel

theorem witness_StuckWire :
    (let u := (breaking .breakRx (some 1000) none false .low 1000).elapse [1048]
     u.lc.st = .breakRx ∧ u.lc.breakOver = false ∧
      u.lc.dominant = some { length := 2048, bound := true } ∧ u.someTrackKept = true) ∧
    ((breaking .breakRx (some 1000) none false .low 1000).elapse [1047]).lc.dominant =
      some { length := 2047, bound := true } ∧
    (∀ owed : Bool,
     let s := breaking .stuck none none false .high 0
     let u := ({ s with lc := { s.lc with owed := owed } } : State).elapse [6]
     u.lc.st = .stuck ∧ 6 * u.rate.tau ≤ u.recessive ∧ u.lc.owed = owed ∧ u.lc.trans = none ∧
      u.lc.waiting = none) ∧
    (let u := (breaking .stuck none none false .high 0).elapse [5]
     u.lc.st = .stuck ∧ u.recessive < 6 * u.rate.tau) := by decide +kernel

/-- The MARK read back, and another node's dominant bit in it. -/
theorem witness_AxlCarriesTheMark :
    (let s := reads .sending (some mark) none 2 [false, false] .high 9
     s.clk.resetn = true ∧ s.lc.st = .sending ∧ s.lc.trans = some mark ∧ s.wire.level = .high ∧
      s.lc.reading = some { start := 1000998, bits := [false, false] } ∧
      [false, false].take 30 = (markBits mark.unit mark.seq).take 2 ∧ s.drivesAxl = true) ∧
    ((markBits 1 5)[5]? = some true ∧ ((markBits 1 5).take 5 ++ [false])[5]? = some false) ∧
    (let s := breaking .breakTx none (some 1001040) false .high 9
     s.lc.st = .breakTx ∧ s.lc.breakEnd = some 1001040 ∧ s.drivesAxl = true) ∧
    (breaking .breakTx none none true .high 9).lc.breakEnd = none ∧ running.lc.st = .idle ∧
    (let s := reads .sending (some mark) none 0 [] .high 9
     s.lc.reading = some { start := s.clk.tb, bits := [] } ∧ s.lc.trans = some mark) ∧
    (reads .receiving none (some foreign) 2 [false] .low 2).lc.reading =
      some { start := 1000998, bits := [false] } := by decide +kernel

/-! ### Memory and invariants -/

theorem witness_WordDisturbedGoesBad :
    (running.elapse [1]).ma.clearHold = false ∧ (running.elapse [1]).memoryOk := ⟨rfl, rfl⟩

theorem witness_OnlyGrantedWritesChangeMemory :
    exec (.portMemoryWrite [1] 0x1000 7) halted = .next (after (.portMemoryWrite [1] 0x1000 7) halted) ∧
    (∀ dt, Instr.portMemoryWrite [1] 0x1000 7 ≠ .resetnRelease dt) ∧
    (∀ dt addr d, Instr.portMemoryWrite [1] 0x1000 7 = .wordDisturbed dt addr d → addr.toNat ≠ 0x2000) ∧
    (∀ acc, (after (.portMemoryWrite [1] 0x1000 7) halted).ma.inflight = some acc →
      (halted.ma.inflight = none ∨ ∃ dt, Instr.portMemoryWrite [1] 0x1000 7 = .memoryAccessComplete dt) →
      acc.read = none → acc.addr ≠ 0x2000) := by
  refine ⟨rfl, nofun, nofun, ?_⟩
  intro acc h _ _ ha
  have k : (after (.portMemoryWrite [1] 0x1000 7) halted).ma.inflight =
      some { who := .systemPort, addr := 0x1000, read := none } := by decide +kernel
  rw [k] at h
  injection h with h
  rw [← h] at ha
  exact absurd ha (by decide)

/-- A write granted before the step and still in flight: its own word is left alone too. -/
theorem witness_OnlyGrantedWritesChangeMemory_in_flight :
    let s := after (.portMemoryWrite [1] 0x1000 7) halted
    s.ma.inflight = some { who := .systemPort, addr := 0x1000, read := none } ∧
    ¬ (s.ma.inflight = none ∨ ∃ dt, Instr.tbLoRead [1] = .memoryAccessComplete dt) ∧
    exec (.tbLoRead [1]) s = .next (after (.tbLoRead [1]) s) := by
  have k : (after (.portMemoryWrite [1] 0x1000 7) halted).ma.inflight =
      some { who := .systemPort, addr := 0x1000, read := none } := by decide +kernel
  refine ⟨k, ?_, rfl⟩
  rw [k]
  rintro (h | ⟨dt, h⟩) <;> cases h

/-- `running` with a tick's MARK to come. -/
def busy : State := { running with pending := [.markTick []] }

theorem busy_steps : step busy = .next (after (.markTick []) running) := rfl

theorem witness_EveryStepKeepsAttnAndWarn : busy.attentionOk ∧ busy.warnOk := ⟨rfl, rfl⟩

theorem witness_EveryStepKeepsMemoryAndHolds : busy.memoryOk ∧ busy.holdsOk :=
  ⟨rfl, by unfold State.holdsOk; decide⟩

theorem witness_EveryStepKeepsLinkAndProfile : busy.linkOk ∧ busy.profileOk :=
  ⟨by unfold State.linkOk; decide, by unfold State.profileOk; decide⟩

theorem witness_EveryStepKeepsTheAxisRecords : busy.axesOk := by
  intro x
  cases x <;> (unfold axisOk; decide +kernel)

theorem witness_EveryStepKeepsSettingsLegal : busy.settingsOk := by
  refine ⟨nofun, ?_⟩
  rintro a ⟨⟩
  exact settings39_legal

theorem witness_EveryStepKeepsHardReset :
    halted.hardReset.resetHeld ∧ halted.hardReset.clk.resetn = false ∧
    step halted.hardReset = .next halted.hardReset := ⟨fun _ => rfl, rfl, rfl⟩

/-! ### Correction -/

/-- `snapshot39` with the focus axis in a mode and a state. -/
def focusing (m : AxisMode) (r : AxisRec) : Snapshot :=
  { snapshot39 with
    axes := { snapshot39.axes with focus := r },
    settings := { settings39 with focus := { focus39 with mode := m } } }

theorem witness_FocusIsTheExposureMean :
    ((focusing .off AxisRec.idle).settings.focus.mode = .off ∧
      (focusing .fixed AxisRec.idle).settings.focus.mode = .fixed) ∧
    (∀ r ∈ [{ live39 with st := .lost }, { live39 with track := [] }],
      (focusing .track r).settings.focus.mode = .track ∧
      ¬ ((r.st = .live ∨ r.st = .stale) ∧ r.track ≠ [])) ∧
    (snapshot39.settings.focus.mode = .track ∧ live39.st = .live ∧ live39.track ≠ [] ∧
      live39.track.head? = some ⟨998500, 10600⟩ ∧ live39.track.getLast? = some ⟨1008500, 15600⟩) := by decide

/-- The curve of section 3.9 at its clauses: before, at and between samples, past the newest and at the limit. -/
theorem witness_FocusIsTheExposureMean_curve :
    let track := live39.track.map (relSample 1000000)
    (track ≠ [] ∧ (0 : Int) < 10000 ∧ (track.map Prod.fst).Pairwise (· < ·) ∧
      ∀ x ∈ track, -8388608 ≤ x.2 ∧ x.2 ≤ 8388607) ∧
    (track.head? = some (-1500, 10600) ∧ track.length = 4 + 2 ∧ track[4]? = some (6500, 14400) ∧
      track[4 + 1]? = some (8500, 15600) ∧ track.getLast? = some (8500, 15600)) ∧
    [-1500, 0, 8500, 10000, 12500, 20000].map (focusAt track 4000) =
      [10600, 11200, 15600, 16500, 18000, 18000] ∧
    breakpoints track 1000 10000 = [0, 500, 2500, 4500, 6500, 8500, 9500, 10000] ∧
    focusAt [(-1500, 10600)] 4000 7 = 10600 := by decide +kernel

theorem witness_PositionsBecomeCoordinates :
    let falling : List (Int × Nat) := [(40000, 0), (20000, 30000), (0, 65535)]
    (2 ≤ focus39.points.length ∧ (focus39.points.map Prod.fst).Pairwise (· < ·) ∧
      (falling.map Prod.fst).Pairwise (· > ·)) ∧
    (falling[0]? = some (40000, 0) ∧ falling[0 + 1]? = some (20000, 30000) ∧
      falling[1 + 1]? = some (0, 65535) ∧ falling.head? = some (40000, 0) ∧
      falling.getLast? = some (0, 65535) ∧ focus39.points.head? = some (0, 0) ∧
      focus39.points.getLast? = some (48000, 65535)) ∧
    mapPosition falling 20000 = (30000, false) ∧ mapPosition focus39.points (-1) = (0, true) ∧
    mapPosition focus39.points 48001 = (65535, true) := by decide +kernel

/-- The iris in each of its cases. -/
theorem witness_PositionsBecomeCoordinates_axes :
    (settings39.iris.mode = .fixed ∧ settings39.zoom.mode = .off) ∧
    (focus39.mode = .track ∧ ¬ (AxisRec.idle.st = .live ∨ AxisRec.idle.st = .stale) ∧
      live39.st = .live ∧ live39.track ≠ [] ∧ 1 ≤ focus39.average) ∧
    auxCoordinate focus39 live39 none = (23400, false, false, some 23400) ∧
    auxCoordinate focus39 AxisRec.idle (some 9) = (9, false, true, none) := by decide +kernel

theorem witness_CellsBreathingAndShading :
    let xs := profBreathingFocus profile39
    (xs.Pairwise (· < ·) ∧ xs.head? = some 0 ∧ xs.getLast? = some 65535) ∧
    [0, 16383, 16384, 20510, 65535].map (cell xs) =
      [(0, 0), (0, 65532), (1, 0), (1, 16504), (3, 65536)] ∧
    (snapshot39.profile = .ready ∧ snapshot39.mount = .present ∧ settings39.breathingOn = true ∧
      4194304 ≤ settings39.scaleMax ∧ settings39.shadingOn = true ∧ settings39.shadingStrength ≠ 0 ∧
      4096 ≤ settings39.gainMax) ∧
    (0 < breathingAt profile39 0 20510 0 ∧ 0 < breathingAt profile39 1 20510 0) := by decide +kernel

/-- A ceiling that limits, and the switches off. -/
theorem witness_CellsBreathingAndShading_limits :
    let room (g : Nat) : Int := (g : Int) - 4096
    (530 + 134 + 0 ≤ room 8192 ∧ room 4196 < 530 + 134 + 0) ∧
    gainCeiling 4196 530 134 0 = (79, 20, 0, true) ∧
    ({ settings39 with breathingOn := false } : Settings).breathingOn = false ∧
    ({ settings39 with shadingOn := false } : Settings).shadingOn = false ∧
    ({ settings39 with shadingStrength := 0 } : Settings).shadingStrength = 0 := by decide

theorem witness_BandRecordBounds :
    4194304 ≤ snapshot39.settings.scaleMax ∧ 4096 ≤ snapshot39.settings.gainMax ∧
    (({ snapshot39 with mount := .absent } : Snapshot).profile ≠ .ready ∨
      ({ snapshot39 with mount := .absent } : Snapshot).mount = .absent) := by decide

end Sys2Proof.Tests
end

/-! PROOFS. The rows and times of a band table (R4, R5): settles O22 and O23. -/

namespace Sys2Proof.Machine

/-! ## Rows (R4) -/

section
variable {g : Geometry} (hB : 1 ≤ g.bands) (hR : g.bands ≤ g.rows)
include hB

/-- Where band B would start is the row after the sensor's last. -/
theorem firstRow_bands : firstRow g g.bands = g.rows := Nat.mul_div_cancel_left _ hB

include hR

/-- Each band holds a row, since there are at least as many rows as bands. -/
theorem firstRow_strictMono : StrictMono (firstRow g) := by
  refine strictMono_nat_of_lt_succ fun b => ?_
  calc firstRow g b + 1
      = (b * g.rows + g.bands) / g.bands := (Nat.add_div_right _ hB).symm
    _ ≤ firstRow g (b + 1) := Nat.div_le_div_right (by rw [Nat.succ_mul]; omega)

/-- From one band to the next the first row and the last row rise by one each at least, so their halved
sum rises too. -/
theorem centreRow_strictMono : StrictMono (centreRow g) := by
  have hrise := firstRow_strictMono hB hR
  intro b b' hb
  have hfirst := hrise hb
  have hnext := hrise (Nat.add_lt_add_right hb 1)
  have hrow := hrise (Nat.lt_add_one b)
  simp only [centreRow, lastRow]
  omega

theorem firstRow_lt_rows {b : Nat} (hb : b < g.bands) : firstRow g b < g.rows :=
  firstRow_bands hB ▸ firstRow_strictMono hB hR hb

theorem centreRow_lt_rows {b : Nat} (hb : b < g.bands) : centreRow g b < g.rows := by
  have hrow := firstRow_strictMono hB hR (Nat.lt_add_one b)
  have hnext : firstRow g (b + 1) ≤ g.rows :=
    firstRow_bands hB ▸ (firstRow_strictMono hB hR).monotone hb
  simp only [centreRow, lastRow]
  omega

end

/-- Settles O22: the rows are the model's formulas, and the last band ends where band B would start. -/
theorem bandRows : Obligations.BandRows := by
  intro g t0 b hB hR _
  refine ⟨rfl, rfl, rfl, firstRow_strictMono hB hR (Nat.lt_add_one b), ?_⟩
  change firstRow g (g.bands - 1 + 1) - 1 = g.rows - 1
  rw [Nat.sub_add_cancel hB, firstRow_bands hB]

/-! ## Times (R5) -/

/-- Two delays less than 2^31 µs apart keep their order when they are added to one wrapping time. -/
theorem later_add_micros (t : Time) {m n : Nat} (hmn : m < n) (hn : n < 2 ^ 31) :
    later (t + micros n) (t + micros m) = true := by
  have hdiff : t + micros n - (t + micros m) = micros (n - m) := by
    apply BitVec.eq_of_toNat_eq
    simp only [micros, BitVec.toNat_sub, BitVec.toNat_add, BitVec.toNat_ofNat]
    omega
  rw [later, hdiff, decide_eq_true_eq, micros, BitVec.toInt_ofNat', Int.bmod_def]
  omega

/-- What is taken off both times does not change which is later. -/
@[simp] theorem later_sub_sub (x y d : Time) : later (x - d) (y - d) = later x y := by
  have hdiff : x - d - (y - d) = x - y := by bv_omega
  rw [later, later, hdiff]

/-- A line of at least 1 µs separates the readout delays of any two rows. -/
theorem rowDelay_strictMono {lt : Nat} (hlt : 256 ≤ lt) : StrictMono fun r => r * lt / 256 := by
  refine strictMono_nat_of_lt_succ fun r => ?_
  have hmul : (r + 1) * lt = r * lt + lt := Nat.succ_mul r lt
  omega

/-- What R129 and LAYOUT (R131) give the geometry of legal settings. -/
theorem Settings.legal_geometry {c : Settings} (h : c.legal) :
    (1 ≤ c.bands ∧ c.bands ≤ c.rows) ∧ c.rows ≤ 8192 ∧
      (256 ≤ c.lineTime ∧ c.lineTime ≤ 65535) ∧ c.readoutOffset ≤ 65535 := by
  obtain ⟨⟨_, hrows⟩, ⟨hbands, _, hfit⟩, hline, hoffset, _⟩ := h
  exact ⟨⟨hbands, hfit⟩, hrows, hline, hoffset⟩

section
variable {c : Settings} (h : c.legal)
include h

/-- The latest readout: D = 65,535 and row 8,191 of a line of 65,535/256 µs. -/
theorem readoutDelay_le {r : Nat} (hr : r < c.rows) :
    c.readoutOffset + r * c.lineTime / 256 ≤ 2162399 := by
  obtain ⟨_, hrows, ⟨_, hline⟩, hoffset⟩ := Settings.legal_geometry h
  have hprod : r * c.lineTime ≤ 8191 * 65535 := Nat.mul_le_mul (by omega) hline
  omega

theorem later_readoutTime (t0 : Time) {r r' : Nat} (hlt : r < r') (hr' : r' < c.rows) :
    later (readoutTime c.geometry t0 r') (readoutTime c.geometry t0 r) = true := by
  obtain ⟨_, _, ⟨hline, _⟩, _⟩ := Settings.legal_geometry h
  have hlatest := readoutDelay_le h hr'
  exact later_add_micros t0 (Nat.add_lt_add_left (rowDelay_strictMono hline hlt) _)
    (hlatest.trans_lt (by norm_num))

/-- The times of a band's table rise with the rows they are read from; a release is a deadline less a
lead that all bands share. -/
theorem bandTiming_rises (t0 : Time) {b b' : Nat} (hlt : b < b') (hb' : b' < c.bands) :
    later (bandTiming c.geometry t0 b').deadline (bandTiming c.geometry t0 b).deadline = true ∧
      later (bandTiming c.geometry t0 b').te (bandTiming c.geometry t0 b).te = true ∧
      later (bandTiming c.geometry t0 b').release (bandTiming c.geometry t0 b).release = true := by
  obtain ⟨⟨hB, hR⟩, _⟩ := Settings.legal_geometry h
  have hdeadline := later_readoutTime h t0 (firstRow_strictMono (g := c.geometry) hB hR hlt)
    (firstRow_lt_rows (g := c.geometry) hB hR hb')
  have hte := later_readoutTime h t0 (centreRow_strictMono (g := c.geometry) hB hR hlt)
    (centreRow_lt_rows (g := c.geometry) hB hR hb')
  exact ⟨hdeadline, hte, (later_sub_sub _ _ _).trans hdeadline⟩

end

/-- Settles O23: the times are the model's formulas, and they rise because the rows do. -/
theorem bandTimesRise : Obligations.BandTimesRise := by
  intro c t0 b h _
  exact ⟨rfl, rfl, rfl, rfl, fun _ hlt hb' => bandTiming_rises h t0 hlt hb',
    fun _ _ hlt hr' => later_readoutTime h t0 hlt hr', fun _ hr => readoutDelay_le h hr⟩

end Sys2Proof.Machine

/-! PROOFS. Good replies and bad completions of an axis (R26 to R28): settles O36 and O37. -/

namespace Sys2Proof.Machine

/-! ## Into and out of LOST (R37) -/

/-- An event that leaves an axis out of LOST crosses only if the axis was LOST. -/
theorem lostCrossed_of_not_lost {old new : AxisRec} (h : new.st ≠ .lost) :
    lostCrossed old new = (old.st == .lost) := by
  rw [lostCrossed, beq_false_of_ne h, Bool.bne_false]

/-- An event that brings no axis out of LOST crosses only into LOST. -/
theorem lostCrossed_of_stays_lost {old new : AxisRec} (h : old.st = .lost → new.st = .lost) :
    lostCrossed old new = (old.st != .lost && new.st == .lost) := by
  by_cases hold : old.st = .lost
  · simp [lostCrossed, hold, h hold]
  · simp [lostCrossed, bne, beq_false_of_ne hold]

/-! ## The sample of a reply (R27) -/

section
variable {cap : Nat} {t : List Sample} {p n : Sample} (hn : t.getLast? = some n)
include hn

theorem offerSample_of_not_later (hp : later p.time n.time = false) : offerSample cap t p = t := by
  simp [offerSample, hn, hp]

/-- A full track has a sample to lose: it is not empty, whatever its capacity. -/
theorem offerSample_of_later (hcap : t.length ≤ cap) (hp : later p.time n.time = true) :
    offerSample cap t p = if t.length < cap then t ++ [p] else t.tail ++ [p] := by
  have hjoin : offerSample cap t p = (t ++ [p]).drop (t.length + 1 - cap) := by
    simp [offerSample, hn, hp]
  have hne : t ≠ [] := by rintro rfl; cases hn
  rw [hjoin]
  split_ifs with hroom
  · rw [Nat.sub_eq_zero_of_le hroom, List.drop_zero]
  · have hone : t.length + 1 - cap = 1 := by omega
    rw [hone, List.drop_one, List.tail_append_of_ne_nil hne]

end

/-! ## Good replies (R26) -/

namespace AxisRec
variable (r : AxisRec) (cap q stale lost : Nat)

section
variable {r}

theorem advance_of_unqualified (h : r.st = .seeking ∨ r.st = .lost) : r.advance q = r.qualify q 1 := by
  rcases h with h | h <;> simp only [advance, h]

theorem advance_of_qualifying (h : r.st = .qualifying) :
    r.advance q = r.qualify q (r.good + 1) := by
  simp only [advance, h]

theorem advance_of_qualified (h : r.st = .live ∨ r.st = .stale) :
    r.advance q = { r with st := .live } := by
  rcases h with h | h
  · simp only [advance, h]
    rw [← h]
  · simp only [advance, h]

end

theorem qualify_st_ne_lost (good : Nat) : (r.qualify q good).st ≠ .lost := by
  unfold qualify
  dsimp only
  split_ifs <;> exact nofun

/-- No axis is LOST after a good reply. -/
theorem advance_st_ne_lost : (r.advance q).st ≠ .lost := by
  unfold advance
  split
  next => exact r.qualify_st_ne_lost q 1
  next => exact r.qualify_st_ne_lost q 1
  next => exact r.qualify_st_ne_lost q (r.good + 1)
  next => exact nofun
  all_goals next h => rw [h]; exact nofun

/-- A good reply field by field: the state and the good count go as the state was before it. -/
theorem goodReply_spec (p : Sample) (status : Byte) :
    r.goodReply cap q p status = { r with
      misses := 0, unitStatus := status, lastPos := p.pos, lastCompletion := .ok,
      good := (r.advance q).good, st := (r.advance q).st, track := offerSample cap r.track p } := by
  obtain ⟨st, _, _, _, _, _, _, _, _⟩ := r
  cases st <;> rfl

theorem lostCrossed_goodReply (p : Sample) (status : Byte) :
    lostCrossed r (r.goodReply cap q p status) = (r.st == .lost) := by
  refine lostCrossed_of_not_lost ?_
  rw [goodReply_spec]
  exact r.advance_st_ne_lost q

/-! ## Bad completions (R28) -/

/-- The thresholds move the state alone: LOST is judged first, STALE of a LIVE axis after it. -/
theorem judgeMisses_spec : r.judgeMisses stale lost = { r with
    st :=
      if (r.st = .seeking ∨ r.st = .qualifying ∨ r.st = .live ∨ r.st = .stale) ∧ lost ≤ r.misses
      then .lost
      else if r.st = .live ∧ stale ≤ r.misses then .stale else r.st } := by
  obtain ⟨st, _, misses, _, _, _, _, _, _⟩ := r
  cases st with
  | idle | fixed | lost => simp [judgeMisses]
  | seeking | qualifying | stale | live =>
    simp only [judgeMisses, reduceCtorEq, true_or, or_true, true_and, false_and, if_false]
    split_ifs <;> rfl

variable (c : Completion)

section
variable {r}

theorem badCompletion_of_blanking (h : r.blanking ≠ .notBlanking) :
    r.badCompletion stale lost c = { r with lastCompletion := c } := by
  unfold badCompletion
  dsimp only
  split
  next hb => exact absurd hb h
  all_goals rfl

theorem badCompletion_of_notBlanking (h : r.blanking = .notBlanking) :
    r.badCompletion stale lost c =
      ({ r with
        lastCompletion := c, misses := min 255 (r.misses + 1),
        good := if r.st = .qualifying then 0 else r.good } : AxisRec).judgeMisses stale lost := by
  simp only [badCompletion, h]

/-- An axis already LOST stays LOST. -/
theorem badCompletion_stays_lost (h : r.st = .lost) :
    (r.badCompletion stale lost c).st = .lost := by
  by_cases hb : r.blanking = .notBlanking
  · rw [badCompletion_of_notBlanking stale lost c hb, judgeMisses_spec]
    simp [h]
  · rw [badCompletion_of_blanking stale lost c hb]
    exact h

end

theorem lostCrossed_badCompletion : lostCrossed r (r.badCompletion stale lost c) =
    (r.st != .lost && (r.badCompletion stale lost c).st == .lost) :=
  lostCrossed_of_stays_lost (badCompletion_stays_lost stale lost c)

/-- The four codes of a bad completion act alike, whatever came with them. -/
theorem complete_of_bad (cfg : AxisSettings) (y : Option (Sample × Byte)) {c : Completion}
    (hc : c = .noReply ∨ c = .checkFault ∨ c = .framing ∨ c = .bitFault) :
    r.complete cap cfg c y = r.badCompletion cfg.staleMisses cfg.lostMisses c := by
  rcases hc with rfl | rfl | rfl | rfl <;> rfl

end AxisRec

/-- Settles O36: the record's fields by `goodReply_spec`, its state and good count by the state before, its
track by `offerSample`; the delivery crosses only out of LOST. -/
theorem goodReplyAdvancesAnAxis : Obligations.GoodReplyAdvancesAnAxis := by
  refine ⟨?record, ?delivery⟩
  case record =>
    intro x cfg r p status hcap r'
    have hr' : r' = _ := r.goodReply_spec (trackCap x) cfg.qualify p status
    rw [hr']
    refine ⟨rfl, rfl, rfl, rfl, rfl, rfl, fun h => ?unqualified, fun h => ?qualifying,
      fun h => ?qualified, fun h => ?empty, fun _ hn hp => offerSample_of_not_later hn hp,
      fun _ hn hp => offerSample_of_later hn hcap hp⟩
    case unqualified => rw [AxisRec.advance_of_unqualified _ h]; exact ⟨rfl, rfl⟩
    case qualifying => rw [AxisRec.advance_of_qualifying _ h]; exact ⟨rfl, rfl⟩
    case qualified => rw [AxisRec.advance_of_qualified _ h]; exact ⟨rfl, rfl⟩
    case empty => rw [h]; rfl
  case delivery =>
    intro s a x unit p status ha hmode hunit
    rw [deliver_taken s a x unit _ _ ha hmode hunit]
    simp only [AxisRec.complete, AxisRec.lostCrossed_goodReply]

/-- Settles O37: a bad completion by the blanking, its thresholds by `judgeMisses_spec`; the delivery crosses
only into LOST. -/
theorem badCompletionCountsAMiss : Obligations.BadCompletionCountsAMiss := by
  refine ⟨?record, ?delivery⟩
  case record =>
    intro cap cfg r c y hc r' misses
    have hr' : r' = _ := r.complete_of_bad cap cfg y hc
    rw [hr']
    refine ⟨AxisRec.badCompletion_of_blanking _ _ c, fun hb => ?_⟩
    rw [AxisRec.badCompletion_of_notBlanking _ _ c hb, AxisRec.judgeMisses_spec]
  case delivery =>
    intro s a x unit c ha hmode hunit hc
    dsimp only
    rw [deliver_taken s a x unit c none ha hmode hunit, AxisRec.complete_of_bad _ _ _ _ hc,
      AxisRec.lostCrossed_badCompletion]

end Sys2Proof.Machine

/-! PROOFS. Commands as events: what a step is, which blocks an event touches, and the shape of an invariant. -/

namespace Sys2Proof.Machine

/-- The event that a command runs. RESETN_ASSERT runs none: it does not settle. -/
def eventOf : Instr → State → Option State
  | .resetnAssert _ => fun _ => none
  | .resetnRelease _ => resetnReleased
  | .memoryClearDone _ => memoryCleared
  | .clearingEnd _ => clearingEnded
  | .run _ v | .halt _ v | .sreset _ v => (·.controlWrite v)
  | .causesWrite _ v => (·.causesWritten v)
  | .enablesWrite _ v => (·.enablesWritten v)
  | .tbLoRead _ => tbLoReadDone
  | .registerWriteIgnored _ addr v => (·.registerWrite addr v)
  | .portMemoryRead _ addr => (·.strobeBegins { addr := addr.toNat, write := none })
  | .portMemoryWrite _ addr data => (·.strobeBegins { addr := addr.toNat, write := some data })
  | .portStrobeEnd _ => strobeEnds
  | .memoryAccessComplete _ => accessCompletes
  | .frameStart _ highFor => (·.frameEdge highFor)
  | .bandRelease _ => bandReleased
  | .bandComputeEnd _ => bandComputed
  | .frameWatchdogExpiry _ => watchdogExpires
  | .slotOpen _ => slotOpened
  | .bandRecordWrite _ => recordTakenUp
  | .recordWritten _ => recordDone
  | .slotClose _ => slotCloses
  | .examinationBegin _ => examinationBegins
  | .pageCopyDone _ => copyDone
  | .profileHeaderFetched _ => headerFetched
  | .profileBodyFetched _ => bodyFetched
  | .mountSample _ lens => (·.lensSampled lens)
  | .blankingExpiry _ axis => (·.blankingEnds axis)
  | .markTick _ => markTicked
  | .endOfData _ => dataEnded
  | .replyWindowClose _ => windowCloses
  | .replyReceived _ p2 p1 p0 status check => (·.replyRead p2 p1 p0 status check)
  | .transactionEnd _ => transactionEnds
  | .lostArbitration _ => arbitrationLost
  | .bitFault _ => bitFaulted
  | .receivedFrameFraming _ cause => (·.framingFound cause)
  | .noteReceived _ header data check => (·.noteRead header data check)
  | .breakRecognised _ held => (·.breakSensed held)
  | .sentBreakRelease _ wire => (·.breakReleased wire)
  | .sensedBreakEnd _ => sensedBreakEnds
  | .linkFreeAfterBreak _ => breakWaited
  | .stuck _ => becomesStuck
  | .stuckEnd _ => stuckEnds
  | .wordDisturbed _ addr data => (·.disturbed addr data)
  | .receivedFrameBegin _ => frameSeen
  | .receivedFrameEnd _ => frameOver

theorem exec_eq_runEvent {c : Instr} (hc : ∀ dt, c ≠ .resetnAssert dt) (s : State) :
    exec c s = runEvent c.elapsed (eventOf c) s := by
  cases c with
  | resetnAssert dt => exact absurd rfl (hc dt)
  | _ => rfl

/-- Everything a command can answer. -/
theorem exec_cases {c : Instr} {s t : State} (h : exec c s = .next t) :
    (∃ dt, c = .resetnAssert dt ∧ t = (s.elapse dt).hardReset) ∨ t = s.elapse c.elapsed ∨
      ∃ u, eventOf c (s.elapse c.elapsed) = some u ∧ t = u.settle (s.elapse c.elapsed) := by
  by_cases hc : ∃ dt, c = .resetnAssert dt
  · obtain ⟨dt, rfl⟩ := hc
    simp only [exec, execResetnAssert] at h
    split at h <;> injection h with h
    · exact .inl ⟨dt, rfl, h.symm⟩
    · exact .inr (.inl h.symm)
  · rw [exec_eq_runEvent (not_exists.mp hc)] at h
    exact (runEvent_cases h).elim (fun h => .inr (.inl h.2)) fun h => .inr (.inr h)

/-- A state with the blocks that a command's event can touch as they are in `t`, and the others as in `s`. -/
def touching (c : Instr) (s t : State) : State :=
  match c with
  | .resetnAssert _ => s
  | .resetnRelease _ => { s with clk := t.clk, mem := t.mem, sp := t.sp }
  | .memoryClearDone _ => { s with ma := t.ma, sr := t.sr }
  | .clearingEnd _ => { s with al := t.al, ma := t.ma }
  | .run .. | .halt .. | .sreset .. | .registerWriteIgnored .. => { s with
      ft := t.ft, be := t.be, axes := t.axes, lc := t.lc, pl := t.pl, sr := t.sr, rw := t.rw, ma := t.ma,
      al := t.al }
  | .causesWrite .. | .enablesWrite .. | .tbLoRead _ => { s with al := t.al }
  | .portMemoryRead .. | .portMemoryWrite .. => { s with sp := t.sp }
  | .portStrobeEnd _ => { s with sp := t.sp, ma := t.ma }
  | .memoryAccessComplete _ => { s with
      ma := t.ma, al := t.al, sp := t.sp, rw := t.rw, sr := t.sr, pl := t.pl }
  | .frameStart .. => { s with
      ft := t.ft, be := t.be, axes := t.axes, lc := t.lc, pl := t.pl, sr := t.sr, rw := t.rw, ma := t.ma,
      al := t.al, fi := t.fi }
  | .bandRelease _ => { s with ft := t.ft, be := t.be }
  | .bandComputeEnd _ => { s with be := t.be, rw := t.rw, pl := t.pl, ma := t.ma, al := t.al }
  | .frameWatchdogExpiry _ => { s with al := t.al, ft := t.ft, rw := t.rw }
  | .slotOpen _ | .bandRecordWrite _ | .slotClose _ => { s with rw := t.rw }
  | .recordWritten _ => { s with rw := t.rw, be := t.be, ft := t.ft }
  | .examinationBegin _ | .pageCopyDone _ => { s with sr := t.sr, al := t.al }
  | .profileHeaderFetched _ => { s with pl := t.pl, ma := t.ma, al := t.al }
  | .profileBodyFetched _ => { s with pl := t.pl, be := t.be, ma := t.ma, al := t.al }
  | .mountSample .. => { s with
      ms := t.ms, sr := t.sr, al := t.al, pl := t.pl, axes := t.axes, lc := t.lc }
  | .blankingExpiry .. => { s with axes := t.axes }
  | .endOfData _ | .replyReceived .. | .bitFault _ | .receivedFrameFraming .. | .receivedFrameBegin _
  | .receivedFrameEnd _ => { s with lc := t.lc }
  | .sentBreakRelease .. | .sensedBreakEnd _ => { s with lc := t.lc, axes := t.axes }
  | .markTick _ | .replyWindowClose _ | .transactionEnd _ | .lostArbitration _ | .noteReceived ..
  | .breakRecognised .. | .linkFreeAfterBreak _ | .stuck _ | .stuckEnd _ =>
    { s with lc := t.lc, axes := t.axes, al := t.al }
  | .wordDisturbed .. => { s with mem := t.mem }

/-- A CONTROL write touches what its command touches. -/
theorem controlWrite_frame {s t : State} {v : Word} (h : s.controlWrite v = some t) :
    t = { s with
      ft := t.ft, be := t.be, axes := t.axes, lc := t.lc, pl := t.pl, sr := t.sr, rw := t.rw, ma := t.ma,
      al := t.al } := by
  obtain ⟨-, h | h | h⟩ := controlWrite_cases h
  · rw [runCommand_frame h]
  · rw [haltCommand_frame h]
  · exact sresetCommand_frame h

theorem registerWrite_frame {s t : State} {addr : BitVec 15} {v : Word}
    (h : s.registerWrite addr v = some t) :
    t = { s with
      ft := t.ft, be := t.be, axes := t.axes, lc := t.lc, pl := t.pl, sr := t.sr, rw := t.rw, ma := t.ma,
      al := t.al } := by
  rcases registerWrite_cases h with h | h | h
  · exact controlWrite_frame h
  · rw [causesWritten_frame h]
  · rw [enablesWritten_frame h]

/-- An event touches no other block than its command's. -/
theorem event_touches {c : Instr} {s t : State} (h : eventOf c s = some t) : t = touching c s t := by
  cases c with
  | resetnAssert => cases h
  | resetnRelease => exact resetnReleased_frame h
  | memoryClearDone => exact memoryCleared_frame h
  | clearingEnd => exact clearingEnded_frame h
  | run | halt | sreset => exact controlWrite_frame h
  | causesWrite => exact causesWritten_frame h
  | enablesWrite => exact enablesWritten_frame h
  | tbLoRead => exact tbLoReadDone_frame h
  | registerWriteIgnored => exact registerWrite_frame h
  | portMemoryRead | portMemoryWrite => exact strobeBegins_frame h
  | portStrobeEnd => exact strobeEnds_frame h
  | memoryAccessComplete => exact (accessCompletes_frame h).2.2
  | frameStart => exact frameEdge_frame h
  | bandRelease => exact bandReleased_frame h
  | bandComputeEnd => exact bandComputed_frame h
  | frameWatchdogExpiry => exact watchdogExpires_frame h
  | slotOpen => exact slotOpened_frame h
  | bandRecordWrite => exact recordTakenUp_frame h
  | recordWritten => exact recordDone_frame h
  | slotClose => exact slotCloses_frame h
  | examinationBegin => exact examinationBegins_frame h
  | pageCopyDone => exact copyDone_frame h
  | profileHeaderFetched => exact headerFetched_frame h
  | profileBodyFetched => exact bodyFetched_frame h
  | mountSample => exact lensSampled_frame h
  | blankingExpiry => exact blankingEnds_frame h
  | markTick => exact markTicked_frame h
  | endOfData => exact dataEnded_frame h
  | replyWindowClose => exact windowCloses_frame h
  | replyReceived => exact replyRead_frame h
  | transactionEnd => exact transactionEnds_frame h
  | lostArbitration => exact arbitrationLost_frame h
  | bitFault => exact bitFaulted_frame h
  | receivedFrameFraming => exact framingFound_frame h
  | noteReceived => exact noteRead_frame h
  | breakRecognised => exact breakSensed_frame h
  | sentBreakRelease => exact breakReleased_frame h
  | sensedBreakEnd => exact sensedBreakEnds_frame h
  | linkFreeAfterBreak => exact breakWaited_frame h
  | stuck => exact becomesStuck_frame h
  | stuckEnd => exact stuckEnds_frame h
  | wordDisturbed => rw [disturbed_frame h]; rfl
  | receivedFrameBegin => exact frameSeen_frame h
  | receivedFrameEnd => exact frameOver_frame h

/-- A predicate that each part of a step keeps: the queue moving on, time passing, a hard reset, and an event
with the end of its step. -/
structure Kept (P : State → Prop) : Prop where
  queue : ∀ s q, P s → P (s.withPending q)
  time : ∀ s dt, P s → P (s.elapse dt)
  reset : ∀ s, P s → P s.hardReset
  event : ∀ c s t, P s → eventOf c s = some t → P (t.settle s)

theorem Kept.step {P : State → Prop} (k : Kept P) {s t : State} (hs : P s) (h : step s = .next t) :
    P t := by
  unfold Machine.step at h
  split at h
  · injection h with h
    exact h ▸ k.time _ _ hs
  · rename_i c rest _
    have hq := k.queue s rest hs
    rcases exec_cases h with ⟨dt, -, rfl⟩ | rfl | ⟨u, hu, rfl⟩
    · exact k.reset _ (k.time _ _ hq)
    · exact k.time _ _ hq
    · exact k.event c _ u (k.time _ _ hq) hu

/-- Two predicates that every step keeps are kept together. -/
theorem Kept.and {P Q : State → Prop} (p : Kept P) (q : Kept Q) : Kept fun s => P s ∧ Q s where
  queue s x h := ⟨p.queue s x h.1, q.queue s x h.2⟩
  time s dt h := ⟨p.time s dt h.1, q.time s dt h.2⟩
  reset s h := ⟨p.reset s h.1, q.reset s h.2⟩
  event c s t h k := ⟨p.event c s t h.1 k, q.event c s t h.2 k⟩

end Sys2Proof.Machine

/-! PROOFS. The arbiter, the causes and the part state: what a grant does, what an event raises. Settles O14, O50, O52. -/

namespace Sys2Proof.Machine

/-! ## Granting (R163) -/

/-- The pending requests let this one through: no request that can be served goes before it. -/
def Arbiter.LetsThrough (ma : Arbiter) (r : Request) : Requestor → Prop
  | .recordWriter => ma.reqRw = some r
  | .systemPort => ma.reqPort = some r ∧ ma.portHold = false ∧ ma.reqRw = none
  | .settingsReader => ma.reqSr = some r ∧ ma.reqRw = none ∧ (ma.portHold = true ∨ ma.reqPort = none)
  | .profileLoader => ma.reqPl = some r ∧ ma.reqRw = none ∧ ma.reqSr = none ∧
      (ma.portHold = true ∨ ma.reqPort = none)

/-- The arbiter chooses a request it can serve, of highest priority. -/
theorem choice_spec {ma : Arbiter} {who : Requestor} {r : Request} (h : ma.choice = some (who, r)) :
    ma.inflight = none ∧ ma.clearHold = false ∧ ma.LetsThrough r who := by
  unfold Arbiter.choice at h
  split at h
  · cases h
  · rename_i hidle
    simp only [Bool.or_eq_true, not_or, Bool.not_eq_true, Option.isSome_eq_false_iff,
      Option.isNone_iff_eq_none] at hidle
    refine ⟨hidle.1, hidle.2, ?_⟩
    split at h <;> cases h
    case h_1 hrw => exact hrw
    all_goals
      cases hp : ma.portHold <;> simp_all [Arbiter.LetsThrough]

/-- It chooses none only if it can serve none. -/
theorem choice_isSome {ma : Arbiter} (hi : ma.inflight = none) (hc : ma.clearHold = false)
    (h : ma.reqRw.isSome = true ∨ (ma.reqPort.isSome = true ∧ ma.portHold = false) ∨
      ma.reqSr.isSome = true ∨ ma.reqPl.isSome = true) : ma.choice.isSome = true := by
  unfold Arbiter.choice
  simp only [hi, hc, Option.isSome_none, Bool.or_self, Bool.false_eq_true, if_false]
  split <;> simp_all

/-- Under the clear hold nothing is granted. -/
theorem grant_held {s : State} (h : s.ma.clearHold = true) : s.grant = s := by
  simp [State.grant, Arbiter.choice, h]

/-- A grant's bookkeeping touches neither memory nor the arbiter. -/
theorem rwGranted_memory (s : State) :
    s.rwGranted.mem = s.mem ∧ s.rwGranted.ma = s.ma ∧ s.rwGranted.al.part = s.al.part := by
  rcases rwGranted_spec s with ⟨w, h⟩ | ⟨o, -, ho, h⟩
  · rw [h]; exact ⟨rfl, rfl, rfl⟩
  · rw [h, slotClosed_some s o ho]; exact ⟨rfl, rfl, rfl⟩

theorem grant_of_choice {s : State} {who : Requestor} {r : Request} (h : s.ma.choice = some (who, r)) :
    s.grant = if who = .recordWriter then ((s.withdraw who).access who r).rwGranted
      else (s.withdraw who).access who r := by
  unfold State.grant
  rw [h]
  cases who <;> rfl

/-- The access that a grant puts in flight, and what it does to memory. -/
theorem grant_access {s : State} {who : Requestor} {r : Request} (h : s.ma.choice = some (who, r)) :
    ∃ acc, s.grant.ma.inflight = some acc ∧ acc.who = who ∧ acc.addr = r.addr ∧
      (r.write = none → s.grant.mem = s.mem ∧ acc.read = some (memFetch s.mem s.clk.tb r.addr)) ∧
      (∀ w, r.write = some w → s.grant.mem = memWrite s.mem r.addr w ∧ acc.read = none) := by
  have hg : s.grant.mem = ((s.withdraw who).access who r).mem ∧
      s.grant.ma = ((s.withdraw who).access who r).ma := by
    rw [grant_of_choice h]
    split
    · exact ⟨(rwGranted_memory _).1, (rwGranted_memory _).2.1⟩
    · exact ⟨rfl, rfl⟩
  rw [hg.1, hg.2]
  unfold State.access
  cases hw : r.write with
  | none => exact ⟨_, rfl, rfl, rfl, fun _ => ⟨rfl, rfl⟩, nofun⟩
  | some w => exact ⟨_, rfl, rfl, rfl, nofun, fun v hv => by cases hv; exact ⟨rfl, rfl⟩⟩

/-- Settles O14, by the arbiter's choice and the access it grants. -/
theorem arbiterChoosesTheHighestPriority : Obligations.ArbiterChoosesTheHighestPriority := by
  refine ⟨fun ma who r h => ?_, fun ma hi hc h => choice_isSome hi hc h, fun s who r h => grant_access h⟩
  obtain ⟨hi, hc, hw⟩ := choice_spec h
  refine ⟨hi, hc, ?_⟩
  cases who <;> exact hw

/-! ## The end of a step -/

theorem settle_mem (u b : State) : (u.settle b).mem = u.mem ∨
    ∃ a w, (u.settle b).mem = memWrite u.mem a w := by
  have hp : (u.markChanged b).present.mem = u.mem :=
    ((markChanged_presented u b).trans (present_presented _)).mem
  rw [State.settle, (present_presented _).mem]
  cases h : (u.markChanged b).present.ma.choice with
  | none => left; rw [State.grant, h]; exact hp
  | some x =>
    obtain ⟨acc, -, -, -, hread, hwrite⟩ := grant_access h
    cases hw : x.2.write with
    | none => left; rw [(hread hw).1, hp]
    | some w => right; exact ⟨_, w, by rw [(hwrite w hw).1, hp]⟩

/-- Writes keep the canonical form. -/
theorem settle_memoryOk {u : State} (b : State) (h : u.memoryOk) : (u.settle b).memoryOk := by
  rw [State.memoryOk]
  rcases settle_mem u b with hm | ⟨a, w, hm⟩ <;> rw [hm]
  · exact h
  · exact memWf_memWrite _ a w h

/-- An access granted at the end of a step is one that the holds let in. -/
theorem settle_grants {u b : State} {acc : Access} (hu : u.ma.inflight = none)
    (h : (u.settle b).ma.inflight = some acc) :
    u.ma.clearHold = false ∧ (acc.who = .systemPort → u.ma.portHold = false) := by
  have hp := (markChanged_presented u b).trans (present_presented _)
  rw [State.settle, (present_presented _).inflight] at h
  rw [← hp.clearHold, ← hp.portHold]
  cases hc : (u.markChanged b).present.ma.choice with
  | none =>
    rw [State.grant, hc, hp.inflight, hu] at h
    cases h
  | some x =>
    obtain ⟨acc', hacc, hwho, -⟩ := grant_access hc
    obtain ⟨-, hclear, hreq⟩ := choice_spec hc
    obtain rfl : acc' = acc := Option.some.inj (hacc.symm.trans h)
    refine ⟨hclear, fun hport => ?_⟩
    rw [← hwho, hport] at hreq
    exact hreq.2.1

/-- The end of a step keeps the part state. -/
theorem SettledRecords.part {u t : State} (h : SettledRecords u t) : t.al.part = u.al.part := by
  rcases h with ⟨-, h⟩ | ⟨-, -, -, -, -, -, h⟩ <;> rw [h]
  rfl

/-! ## What raising causes does -/

/-- ATTN is low exactly while a cause is SET and enabled (R189). -/
def Attention.agrees (al : Attention) : Prop := al.attnLow = (al.causes &&& al.enables != 0)

theorem attentionOk_iff (s : State) : s.attentionOk ↔ s.al.agrees := Iff.rfl

/-- `b` is `a` after causes have been raised and an address latched: the part state stands, and ATTN still agrees. -/
def Attention.Raised (a b : Attention) : Prop := b.part = a.part ∧ (a.agrees → b.agrees)

theorem Attention.Raised.refl (a : Attention) : a.Raised a := ⟨rfl, id⟩

theorem Attention.Raised.trans {a b c : Attention} (h : a.Raised b) (k : b.Raised c) : a.Raised c :=
  ⟨k.1.trans h.1, k.2 ∘ h.2⟩

theorem Attention.agrees_raise (a : Attention) (c : Cause) : (a.raise c).agrees := rfl

theorem Attention.raised_raise (a : Attention) (c : Cause) : a.Raised (a.raise c) :=
  ⟨rfl, fun _ => rfl⟩

theorem Attention.raised_raiseWhen (a : Attention) (b : Bool) (c : Cause) : a.Raised (a.raiseWhen b c) := by
  cases b
  · exact .refl a
  · exact a.raised_raise c

theorem raiseIf_raised (s : State) (b : Bool) (c : Cause) : s.al.Raised (s.raiseIf b c).al := by
  cases b
  · exact .refl _
  · exact Attention.raised_raise _ c

theorem settledRecords_raised {u t : State} (h : SettledRecords u t) : u.al.Raised t.al := by
  rcases h with ⟨-, h⟩ | ⟨-, -, -, -, -, -, h⟩ <;> rw [h]
  · exact .refl _
  · exact Attention.raised_raise _ _

theorem moveAxes_raised (s : State) (f : Axis → AxisRec → AxisRec) : s.al.Raised (s.moveAxes f).al := by
  rw [moveAxes_spec]; exact Attention.raised_raiseWhen _ _ _

theorem deliver_raised (s : State) (x : Axis) (n : Nat) (c : Completion) (y : Option (Sample × Byte)) :
    s.al.Raised (s.deliver x n c y).al := by
  unfold State.deliver
  split
  · dsimp only
    split
    · exact moveAxes_raised s _
    · exact .refl _
  · exact .refl _

theorem sendBreak_raised (s : State) : s.al.Raised s.sendBreak.al := by
  rw [sendBreak_spec]; exact Attention.raised_raiseWhen _ _ _

theorem endTransaction_raised (s : State) (x : Transaction) : s.al.Raised (s.endTransaction x).al := by
  unfold State.endTransaction
  dsimp only
  rw [linkFree_frame]
  exact deliver_raised (s.withLc { s.lc with trans := none }) _ _ _ _

theorem linkAfterBreak_raised (s : State) : s.al.Raised s.linkAfterBreak.al := by
  unfold State.linkAfterBreak
  dsimp only
  split
  · exact sendBreak_raised _
  · exact .refl _

theorem loadFinishes_raised (s : State) (l : Load) : s.al.Raised (s.loadFinishes l).al := by
  rw [loadFinishes_spec]; exact Attention.raised_raise _ _

theorem profileAdopts_raised (s : State) (c : Settings) : s.al.Raised (s.profileAdopts c).al := by
  unfold State.profileAdopts
  split
  · exact .refl _
  · split
    · split
      · exact Attention.raised_raise _ _
      · exact .refl _
    · split
      · split
        · exact Attention.raised_raise _ _
        · exact .refl _
      · split
        · exact Attention.raised_raise _ _
        · exact .refl _
      · exact .refl _
    · exact .refl _

theorem selectorRead_raised (s : State) (v : Stored) (n : BitVec 32) :
    s.al.Raised (s.selectorRead v n).al := by
  unfold State.selectorRead
  split
  · exact Attention.raised_raise _ _
  · split
    · exact .refl _
    · split
      · exact .refl _
      · rw [judgePair_frame]; exact .refl _

theorem accessHeard_raised (s : State) (a : Access) : s.al.Raised (s.accessHeard a).al := by
  unfold State.accessHeard
  split
  · unfold State.recordWriterHears
    split
    · exact (raiseIf_raised s _ .overrun).trans (raiseIf_raised _ _ .parity)
    · exact .refl _
  · unfold State.portHears
    dsimp only
    split <;> exact raiseIf_raised s _ .parity
  · unfold State.readerHears
    dsimp only
    split
    · exact selectorRead_raised _ _ _
    · rw [judgePair_frame]; exact .refl _
    · rw [pageWordRead_frame]; exact .refl _
    · exact .refl _
  · rw [loaderHears_frame]; exact .refl _

theorem breakForDetach_raised (s : State) : s.al.Raised s.breakForDetach.al := by
  unfold State.breakForDetach
  split
  iterate 4 exact sendBreak_raised s
  iterate 2
    split
    · exact .refl _
    · exact sendBreak_raised s
  all_goals exact .refl _

theorem laterSample_raised (s : State) (last lens : Level) : s.al.Raised (s.laterSample last lens).al := by
  unfold State.laterSample
  dsimp only
  split
  · exact Attention.raised_raise _ _
  · refine Attention.Raised.trans ?_ (breakForDetach_raised _)
    rw [axesDetach_spec]
    exact (Attention.raised_raise _ _).trans (Attention.raised_raiseWhen _ _ _)
  · exact .refl _

theorem breakForRate_raised (s : State) : s.al.Raised s.breakForRate.al := by
  unfold State.breakForRate
  split
  iterate 4 exact sendBreak_raised s
  · split
    · rw [axesBreakBegin_spec]; exact Attention.raised_raiseWhen _ _ _
    · exact sendBreak_raised s
  all_goals exact .refl _

theorem startTimer_frame (s : State) : s.startTimer = { s with lc := s.startTimer.lc } := by
  unfold State.startTimer; split <;> rfl

@[simp] theorem startTimer_al (s : State) : s.startTimer.al = s.al := by rw [startTimer_frame]
@[simp] theorem startTimer_ma (s : State) : s.startTimer.ma = s.ma := by rw [startTimer_frame]

theorem adoptPending_raised (s : State) : s.al.Raised s.adoptPending.al := by
  unfold State.adoptPending State.servesSettings
  split
  · dsimp only
    rw [startTimer_al]
    rename_i a _
    have hmove : (s.comesInForce a (s.ft.frameNo + 1)).al.Raised
        (((s.comesInForce a (s.ft.frameNo + 1)).axesAdopt s.mode s.unit a.settings).markChanged s).al :=
      moveAxes_raised _ _
    refine (Attention.raised_raise s.al .adopt).trans (hmove.trans ?_)
    refine (profileAdopts_raised _ a.settings).trans ?_
    split
    · exact .refl _
    · exact breakForRate_raised _
  · exact .refl _

/-! ## The part state and the causes at an event -/

/-- The commands whose events move the part state (R17, R182 to R187). -/
def movesPart : Instr → Bool
  | .clearingEnd _ | .run .. | .halt .. | .sreset .. | .registerWriteIgnored .. | .frameStart ..
  | .frameWatchdogExpiry _ => true
  | _ => false

theorem event_raised {c : Instr} {s t : State} (h : eventOf c s = some t) (hc : movesPart c = false) :
    s.al.Raised t.al := by
  cases c with
  | clearingEnd | run | halt | sreset | registerWriteIgnored | frameStart | frameWatchdogExpiry => cases hc
  | causesWrite | enablesWrite =>
    simp only [eventOf, State.causesWritten, State.enablesWritten] at h
    split at h <;> cases h
    exact ⟨rfl, fun _ => rfl⟩
  | tbLoRead =>
    simp only [eventOf, tbLoReadDone] at h
    split at h <;> cases h
    exact ⟨rfl, id⟩
  | memoryAccessComplete =>
    simp only [eventOf, accessCompletes] at h
    split at h <;> cases h
    refine Attention.Raised.trans ?_ (accessHeard_raised _ _)
    split <;> exact ⟨rfl, id⟩
  | bandComputeEnd =>
    simp only [eventOf, bandComputed] at h
    split at h <;> cases h
    unfold State.endFinishing
    split
    · split
      · exact loadFinishes_raised _ _
      · exact .refl _
    · exact .refl _
  | examinationBegin =>
    simp only [eventOf, examinationBegins] at h
    split at h
    · split at h <;> cases h
      · exact .refl _
      · exact Attention.raised_raise _ _
    · cases h
  | pageCopyDone =>
    simp only [eventOf, copyDone] at h
    split at h
    · cases h; exact Attention.raised_raise _ _
    · split at h
      · split at h <;> cases h
        · exact Attention.raised_raise _ _
        · exact .refl _
      · cases h
    · cases h
  | profileHeaderFetched =>
    simp only [eventOf, headerFetched] at h
    split at h
    · split at h
      · split at h <;> cases h
        · exact Attention.raised_raise _ _
        · exact .refl _
      · cases h
    · cases h
  | profileBodyFetched =>
    simp only [eventOf, bodyFetched] at h
    split at h
    · split at h
      · split at h
        · cases h; exact Attention.raised_raise _ _
        · split at h <;> cases h
          · exact .refl _
          · exact loadFinishes_raised _ _
      · cases h
    · cases h
  | mountSample =>
    simp only [eventOf, State.lensSampled] at h
    split at h
    · split at h <;> cases h
      · exact .refl _
      · exact laterSample_raised (s.withMs _) _ _
    · cases h
  | markTick =>
    simp only [eventOf, markTicked] at h
    have hd : s.al.Raised s.dropWaiting.al := by
      unfold State.dropWaiting
      split
      · exact deliver_raised (s.withLc _) _ _ _ _
      · exact .refl _
    split at h
    · split at h
      · split at h <;> cases h
        · rw [markDue_frame]; exact hd
        · exact hd
      · cases h
    · cases h
  | replyWindowClose =>
    simp only [eventOf, windowCloses] at h
    split at h
    · split at h
      · split at h <;> cases h
        exact endTransaction_raised _ _
      · cases h
    · cases h
  | transactionEnd =>
    simp only [eventOf, transactionEnds] at h
    split at h
    · split at h <;> cases h
      exact endTransaction_raised _ _
    · cases h
  | lostArbitration =>
    simp only [eventOf, arbitrationLost] at h
    split at h
    · split at h <;> cases h
      exact deliver_raised (s.withLc _) _ _ _ _
    · cases h
  | noteReceived =>
    simp only [eventOf, State.noteRead] at h
    split at h
    · split at h <;> cases h <;> rw [linkFree_frame]
      · exact moveAxes_raised _ _
      · exact .refl _
    · cases h
  | breakRecognised =>
    simp only [eventOf, State.breakSensed] at h
    split at h <;> cases h
    rw [senseBreak_spec]; exact Attention.raised_raiseWhen _ _ _
  | linkFreeAfterBreak =>
    simp only [eventOf, breakWaited] at h
    split at h <;> cases h
    exact linkAfterBreak_raised _
  | stuck =>
    simp only [eventOf, becomesStuck] at h
    split at h
    · split at h <;> cases h
      rw [axesStuck_spec]
      exact (Attention.raised_raise _ _).trans (Attention.raised_raiseWhen _ _ _)
    · cases h
  | stuckEnd =>
    simp only [eventOf, stuckEnds] at h
    split at h <;> cases h
    refine Attention.Raised.trans ?_ (linkAfterBreak_raised _)
    rw [axesStuckEnd_spec]; exact Attention.raised_raiseWhen _ _ _
  | _ => rw [event_touches h]; exact .refl _

/-! ## Memory, the holds and the access in flight at an event -/

theorem event_mem {c : Instr} {s t : State} (h : eventOf c s = some t) (hr : ∀ dt, c ≠ .resetnRelease dt)
    (hd : ∀ dt addr d, c ≠ .wordDisturbed dt addr d) : t.mem = s.mem := by
  rw [event_touches h]
  cases c with
  | resetnRelease dt => exact absurd rfl (hr dt)
  | wordDisturbed dt addr d => exact absurd rfl (hd dt addr d)
  | _ => rfl

theorem event_memoryOk {c : Instr} {s t : State} (h : eventOf c s = some t) (hs : s.memoryOk) :
    t.memoryOk := by
  by_cases hr : ∃ dt, c = .resetnRelease dt
  · obtain ⟨dt, rfl⟩ := hr
    simp only [eventOf, resetnReleased] at h
    split at h <;> cases h
    rfl
  by_cases hd : ∃ dt addr d, c = .wordDisturbed dt addr d
  · obtain ⟨dt, addr, d, rfl⟩ := hd
    rw [disturbed_frame h]
    exact memWf_memDisturb _ _ _ hs
  rw [State.memoryOk, event_mem h (not_exists.mp hr) fun dt addr d e => hd ⟨dt, addr, d, e⟩]
  exact hs

/-- Two arbiters that differ in their pending requests only. -/
def Arbiter.SameHolds (a b : Arbiter) : Prop :=
  b.inflight = a.inflight ∧ b.clearHold = a.clearHold ∧ b.portHold = a.portHold

theorem profileAdopts_ma (s : State) (c : Settings) : s.ma.SameHolds (s.profileAdopts c).ma := by
  have same : ∀ a : Arbiter, a.SameHolds a := fun _ => ⟨rfl, rfl, rfl⟩
  unfold State.profileAdopts
  split
  · exact ⟨rfl, rfl, rfl⟩
  · split
    · split <;> exact same _
    · split
      · split
        · exact ⟨rfl, rfl, rfl⟩
        · exact same _
      · split
        · exact ⟨rfl, rfl, rfl⟩
        · exact same _
      · exact same _
    · exact same _

theorem breakForRate_ma (s : State) : s.breakForRate.ma = s.ma := by
  have sent : s.sendBreak.ma = s.ma := by rw [sendBreak_frame]
  unfold State.breakForRate
  split
  iterate 4 exact sent
  · split
    · rw [axesBreakBegin_spec]; rfl
    · exact sent
  all_goals rfl

theorem adoptPending_ma (s : State) : s.ma.SameHolds s.adoptPending.ma := by
  unfold State.adoptPending State.servesSettings
  split
  · dsimp only
    rw [startTimer_ma]
    rename_i a _
    have hm : (((s.comesInForce a (s.ft.frameNo + 1)).axesAdopt s.mode s.unit a.settings).markChanged
        s).ma = s.ma := by
      rw [State.axesAdopt, moveAxes_frame]; rfl
    have hp := profileAdopts_ma (((s.comesInForce a (s.ft.frameNo + 1)).axesAdopt s.mode s.unit
      a.settings).markChanged s) a.settings
    rw [hm] at hp
    split
    · exact hp
    · rw [breakForRate_ma]; exact hp
  · exact ⟨rfl, rfl, rfl⟩

/-- The commands whose events change a hold or end the access in flight. -/
def movesHolds : Instr → Bool
  | .memoryClearDone _ | .clearingEnd _ | .memoryAccessComplete _ => true
  | _ => false

theorem controlWrite_holds {s t : State} {v : Word} (h : s.controlWrite v = some t) :
    s.ma.SameHolds t.ma := by
  obtain ⟨-, h | h | h⟩ := controlWrite_cases h
  · rw [runCommand_frame h]; exact ⟨rfl, rfl, rfl⟩
  · rw [haltCommand_frame h]; exact ⟨rfl, rfl, rfl⟩
  · unfold State.sresetCommand at h
    split at h <;> cases h
    exact ⟨rfl, rfl, rfl⟩

theorem event_holds {c : Instr} {s t : State} (h : eventOf c s = some t) (hc : movesHolds c = false) :
    s.ma.SameHolds t.ma := by
  cases c with
  | memoryClearDone | clearingEnd | memoryAccessComplete => cases hc
  | run | halt | sreset => exact controlWrite_holds h
  | registerWriteIgnored =>
    rcases registerWrite_cases h with h | h | h
    · exact controlWrite_holds h
    · rw [causesWritten_frame h]; exact ⟨rfl, rfl, rfl⟩
    · rw [enablesWritten_frame h]; exact ⟨rfl, rfl, rfl⟩
  | portStrobeEnd =>
    simp only [eventOf, strobeEnds] at h
    split at h <;> cases h
    exact ⟨rfl, rfl, rfl⟩
  | frameStart dt highFor =>
    simp only [eventOf, State.frameEdge] at h
    split at h <;> cases h
    rw [beginLook_frame, frameOrNone_frame]
    exact adoptPending_ma ((s.withFi { since := 0 }).withFt _)
  | bandComputeEnd =>
    simp only [eventOf, bandComputed] at h
    split at h <;> cases h
    unfold State.endFinishing
    split
    · split
      · rw [loadFinishes_spec]; exact ⟨rfl, rfl, rfl⟩
      · exact ⟨rfl, rfl, rfl⟩
    · exact ⟨rfl, rfl, rfl⟩
  | profileHeaderFetched =>
    simp only [eventOf, headerFetched] at h
    split at h
    · split at h
      · split at h <;> cases h <;> exact ⟨rfl, rfl, rfl⟩
      · cases h
    · cases h
  | profileBodyFetched =>
    simp only [eventOf, bodyFetched] at h
    split at h
    · split at h
      · split at h
        · cases h; exact ⟨rfl, rfl, rfl⟩
        · split at h <;> cases h
          · exact ⟨rfl, rfl, rfl⟩
          · rw [loadFinishes_spec]; exact ⟨rfl, rfl, rfl⟩
      · cases h
    · cases h
  | _ => rw [event_touches h]; exact ⟨rfl, rfl, rfl⟩

/-- Settles O50: an event leaves memory and the access in flight alone, and the end of a step writes the word it
grants. -/
theorem onlyGrantedWritesChangeMemory : Obligations.OnlyGrantedWritesChangeMemory := by
  intro c s t a h hr hd hg
  rcases exec_cases h with ⟨dt, -, rfl⟩ | rfl | ⟨u, hu, rfl⟩
  · exact congrArg (memRead · a) (elapse_mem s dt)
  · rw [elapse_mem]
  · have hword : memRead u.mem a = memRead s.mem a := by
      by_cases hw : ∃ dt addr d, c = .wordDisturbed dt addr d
      · obtain ⟨dt, addr, d, rfl⟩ := hw
        rw [disturbed_frame hu, ← elapse_mem s dt]
        exact memRead_memDisturb_other _ _ _ _ (hd dt addr d rfl).symm
      · rw [event_mem hu hr fun dt addr d e => hw ⟨dt, addr, d, e⟩, elapse_mem]
    rw [← hword]
    refine (settle_settled u _).mem a fun acc hnone hacc => hg acc hacc ?_
    by_cases hm : ∃ dt, c = .memoryAccessComplete dt
    · exact .inr hm
    left
    by_cases hc : movesHolds c = true
    · cases c with
      | memoryAccessComplete dt => exact absurd ⟨dt, rfl⟩ hm
      | memoryClearDone | clearingEnd =>
        simp only [eventOf, memoryCleared, clearingEnded] at hu
        split at hu <;> cases hu
        simpa [State.markAll] using hnone
      | _ => cases hc
    · rw [← elapse_ma s c.elapsed, ← (event_holds hu (by simpa using hc)).1]
      exact hnone

/-! ## The canonical form of memory and the holds of CLEARING (R163, R172) -/

theorem kept_memoryOk : Kept State.memoryOk where
  queue _ _ h := h
  time s dt h := by rw [State.memoryOk, elapse_mem]; exact h
  reset _ h := h
  event _ s _ hs h := settle_memoryOk s (event_memoryOk h hs)

/-- The end of a step keeps the holds and lets in only what they allow. -/
theorem settle_holdsOk {u : State} (b : State) (h : u.holdsOk) : (u.settle b).holdsOk := by
  have hset := settle_settled u b
  obtain ⟨hport, hclear, hserves⟩ := h
  have hpart := hset.records.part
  refine ⟨?_, fun k => ?_, fun k => ?_⟩
  · rw [hset.portHold, hpart]; exact hport
  · rw [hset.clearHold] at k
    obtain ⟨hnone, hcl⟩ := hclear k
    refine ⟨?_, hpart.trans hcl⟩
    cases hi : (u.settle b).ma.inflight with
    | none => rfl
    | some acc =>
      have := (settle_grants hnone hi).1
      rw [k] at this
      cases this
  · rw [hset.portHold] at k
    cases hu : u.ma.inflight with
    | some acc =>
      have hsame := hset.inflight (by rw [hu]; rfl)
      have := hserves k
      unfold Arbiter.serves at this ⊢
      rw [hsame]
      exact this
    | none =>
      unfold Arbiter.serves
      cases hi : (u.settle b).ma.inflight with
      | none => rfl
      | some acc =>
        refine beq_false_of_ne fun hw => ?_
        have := (settle_grants hu hi).2 hw
        rw [k] at this
        cases this

theorem controlWrite_clearing {s t : State} {v : Word} (h : s.controlWrite v = some t) :
    (t.al.part = .clearing ↔ s.al.part = .clearing) := by
  obtain ⟨-, k | k | k⟩ := controlWrite_cases h
  · unfold State.runCommand at k
    split at k <;> cases k
    rename_i hp
    have hsent := (sendBreak_raised (s.withAl { s.al with part := .armed })).1
    simp [hsent, hp]
  · unfold State.haltCommand at k
    split at k <;> cases k
    rename_i hp
    have hs : s.al.part ≠ .clearing := by intro e; rw [e] at hp; cases hp
    simp [hs]
  · unfold State.sresetCommand at k
    split at k <;> cases k
    rename_i hp
    simp [Attention.softReset, hp]

/-- No event but the end of CLEARING leaves or enters it. -/
theorem event_clearing {c : Instr} {s t : State} (h : eventOf c s = some t)
    (hc : ∀ dt, c ≠ .clearingEnd dt) : (t.al.part = .clearing ↔ s.al.part = .clearing) := by
  by_cases hm : movesPart c = true
  · cases c with
    | clearingEnd dt => exact absurd rfl (hc dt)
    | run | halt | sreset => exact controlWrite_clearing h
    | registerWriteIgnored =>
      rcases registerWrite_cases h with h | h | h
      · exact controlWrite_clearing h
      · simp only [State.causesWritten] at h
        split at h <;> cases h
        rfl
      · simp only [State.enablesWritten] at h
        split at h <;> cases h
        rfl
    | frameStart dt highFor =>
      simp only [eventOf, State.frameEdge] at h
      split at h <;> cases h
      rename_i hp
      have hs : s.al.part ≠ .clearing := by
        intro e; simp [e, PartState.live] at hp
      rw [beginLook_frame]
      unfold State.frameOrNone
      split
      · dsimp only; rw [beginFrame_spec]; simp [hs]
      · rw [(adoptPending_raised _).1]; rfl
    | frameWatchdogExpiry =>
      simp only [eventOf, watchdogExpires] at h
      split at h
      · split at h <;> cases h
        rename_i hp _ _
        simp [hp]
      · cases h
    | _ => cases hm
  · rw [(event_raised h (by simpa using hm)).1]

theorem event_holdsOk {c : Instr} {s t : State} (h : eventOf c s = some t) (hs : s.holdsOk) :
    t.holdsOk := by
  obtain ⟨hport, hclear, hserves⟩ := hs
  by_cases hc : movesHolds c = true
  · cases c with
    | memoryClearDone =>
      simp only [eventOf, memoryCleared] at h
      split at h <;> cases h
      exact ⟨hport, nofun, hserves⟩
    | clearingEnd =>
      simp only [eventOf, clearingEnded] at h
      split at h <;> cases h
      rename_i hd
      refine ⟨by simp, fun k => ?_, nofun⟩
      have : s.ma.clearHold = false := by
        simp only [State.clearingDone, Bool.and_eq_true, Bool.not_eq_true'] at hd
        exact hd.1.1.1.1.1.2
      rw [State.withMa_ma] at k
      dsimp only [State.withAl_ma] at k
      rw [this] at k
      cases k
    | memoryAccessComplete dt =>
      have hpart := (event_raised (c := .memoryAccessComplete dt) h rfl).1
      have hma := (accessCompletes_frame h).1
      unfold State.holdsOk Arbiter.serves
      rw [hpart, hma]
      exact ⟨hport, fun k => ⟨rfl, (hclear k).2⟩, fun _ => rfl⟩
    | _ => cases hc
  · have hne : ∀ dt, c ≠ .clearingEnd dt := by rintro dt rfl; exact hc rfl
    obtain ⟨hi, hch, hph⟩ := event_holds h (by simpa using hc)
    unfold State.holdsOk Arbiter.serves
    rw [hi, hch, hph, event_clearing h hne]
    exact ⟨hport, hclear, hserves⟩

theorem kept_holdsOk : Kept State.holdsOk where
  queue _ _ h := h
  time s dt h := by unfold State.holdsOk; rw [elapse_ma, elapse_al]; exact h
  reset _ _ := ⟨⟨fun _ => rfl, fun _ => rfl⟩, fun _ => ⟨rfl, rfl⟩, fun _ => rfl⟩
  event _ s _ hs h := settle_holdsOk s (event_holdsOk h hs)

/-- Settles O52: each part of a step keeps the canonical form, and the holds with CLEARING. -/
theorem everyStepKeepsMemoryAndHolds : Obligations.EveryStepKeepsMemoryAndHolds :=
  ⟨fun _ _ => kept_memoryOk.step, fun _ _ => kept_holdsOk.step⟩

end Sys2Proof.Machine

/-! PROOFS. What every step keeps of ATTN, WARN, the link, the profile and the hard reset: settles O51, O53, O56. -/

namespace Sys2Proof.Machine

/-! ## Register writes as events (R170, R183) -/

/-- The commands that are writes to the register window at an address that their operands give. -/
def isControl : Instr → Bool
  | .run .. | .halt .. | .sreset .. | .registerWriteIgnored .. => true
  | _ => false

/-- A register write that is served is one of the CONTROL commands, or moves the causes or enables alone. -/
theorem control_cases {c : Instr} {s t : State} (h : eventOf c s = some t) (hc : isControl c = true) :
    s.runCommand = some t ∨ s.haltCommand = some t ∨ s.sresetCommand = some t ∨
      (t = { s with al := t.al } ∧ s.al.Raised t.al) := by
  have three : ∀ {v}, s.controlWrite v = some t → s.runCommand = some t ∨ s.haltCommand = some t ∨
      s.sresetCommand = some t ∨ (t = { s with al := t.al } ∧ s.al.Raised t.al) := by
    intro v k
    rcases (controlWrite_cases k).2 with k | k | k
    · exact .inl k
    · exact .inr (.inl k)
    · exact .inr (.inr (.inl k))
  cases c with
  | run | halt | sreset => exact three h
  | registerWriteIgnored =>
    rcases registerWrite_cases h with h | h | h
    · exact three h
    · exact .inr (.inr (.inr ⟨causesWritten_frame h,
        event_raised (c := .causesWrite [] _) h rfl⟩))
    · exact .inr (.inr (.inr ⟨enablesWritten_frame h,
        event_raised (c := .enablesWrite [] _) h rfl⟩))
  | _ => cases hc

theorem runCommand_spec {s t : State} (h : s.runCommand = some t) :
    s.al.part = .halted ∧
    t = { (s.withAl { s.al with part := .armed }).sendBreak with
      rw := { s.rw with warnOut := warnLevel s.rw.warnCount .armed } } := by
  unfold State.runCommand at h
  split at h
  · rename_i hp
    refine ⟨hp, ?_⟩
    dsimp only at h
    rw [sendBreak_frame] at h ⊢
    exact (Option.some.inj h).symm
  · cases h

theorem haltCommand_spec {s t : State} (h : s.haltCommand = some t) :
    s.al.part.live = true ∧
    t = { s with
      ft := { s.cutFrame.ft with watchdog := none }, lc := s.lc.goOff,
      al := { s.al with part := .halted }, rw := { s.cutFrame.rw with warnOut := false } } := by
  unfold State.haltCommand at h
  split at h
  · rename_i hp
    refine ⟨hp, ?_⟩
    dsimp only at h
    rw [cutFrame_frame] at h ⊢
    exact (Option.some.inj h).symm
  · cases h

theorem sresetCommand_spec {s t : State} (h : s.sresetCommand = some t) :
    s.al.part ≠ .clearing ∧
    t = { s with
      ft := s.ft.softReset, be := BandEngine.reset, axes := Axes.reset, lc := s.lc.softReset,
      pl := s.pl.cleared, sr := SettingsReader.softReset, rw := RecordWriter.cleared,
      ma := s.ma.softReset, al := s.al.softReset } := by
  unfold State.sresetCommand at h
  split at h
  · cases h
  · rename_i hp
    exact ⟨hp, (Option.some.inj h).symm⟩

/-! ## The frame start, taken apart (R1, R187) -/

/-- The state in which a recognised edge has given T0 and FRAME counts afresh (R1). -/
def State.takesT0 (s : State) (highFor : Time) : State :=
  (s.withFi { since := 0 }).withFt { s.ft with t0 := s.clk.tb - highFor }

/-- A frame start that is taken: the part is live, and the blocks are served first, the frame begun second and the look
begun last. -/
theorem frameEdge_spec {s t : State} {x : Time} (h : s.frameEdge x = some t) :
    s.al.part.live = true ∧
    t = ((s.takesT0 x).adoptPending.frameOrNone s).beginLook := by
  unfold State.frameEdge at h
  split at h
  · rename_i hp
    simp only [Bool.and_eq_true] at hp
    exact ⟨hp.1.2, (Option.some.inj h).symm⟩
  · cases h

theorem frameOrNone_al (s old : State) :
    (s.frameOrNone old).al = s.al ∨ (s.frameOrNone old).al = { s.al with part := .running } := by
  unfold State.frameOrNone
  split
  · right; dsimp only; rw [beginFrame_spec]; rfl
  · exact .inl rfl

theorem frameOrNone_warn (s old : State) :
    (s.frameOrNone old).rw.warnCount = s.rw.warnCount ∧ (s.frameOrNone old).rw.warnOut = s.rw.warnOut := by
  unfold State.frameOrNone
  split
  · dsimp only; rw [beginFrame_spec]; exact ⟨rfl, rfl⟩
  · exact ⟨rfl, rfl⟩

theorem frameEdge_al {s t : State} {x : Time} (h : s.frameEdge x = some t) :
    t.al.part.live = true ∧ (s.al.agrees → t.al.agrees) := by
  obtain ⟨hlive, rfl⟩ := frameEdge_spec h
  rw [beginLook_frame]
  have hr := adoptPending_raised (s.takesT0 x)
  rcases frameOrNone_al (s.takesT0 x).adoptPending s with e | e <;> rw [e]
  · exact ⟨by rw [hr.1]; exact hlive, hr.2⟩
  · exact ⟨rfl, hr.2⟩

theorem watchdogExpires_al {s t : State} (h : watchdogExpires s = some t) :
    s.al.part = .running ∧ t.al = ({ s.al with part := .frameless } : Attention).raise .frameloss := by
  unfold watchdogExpires at h
  split at h
  · split at h <;> cases h
    rename_i hp _ _
    exact ⟨hp, by rw [cutFrame_al]; rfl⟩
  · cases h

/-! ## ATTN (R189) -/

theorem event_attentionOk {c : Instr} {s t : State} (h : eventOf c s = some t) (hs : s.attentionOk) :
    t.attentionOk := by
  by_cases hc : isControl c = true
  · rcases control_cases h hc with h | h | h | ⟨-, h⟩
    · obtain ⟨-, rfl⟩ := runCommand_spec h
      exact (sendBreak_raised (s.withAl { s.al with part := .armed })).2 hs
    · obtain ⟨-, rfl⟩ := haltCommand_spec h
      exact hs
    · obtain ⟨-, rfl⟩ := sresetCommand_spec h
      simp [State.attentionOk, Attention.softReset]
    · exact h.2 hs
  · by_cases hm : movesPart c = true
    · cases c with
      | clearingEnd =>
        simp only [eventOf, clearingEnded] at h
        split at h <;> cases h
        exact hs
      | frameStart => exact (frameEdge_al h).2 hs
      | frameWatchdogExpiry =>
        have := (watchdogExpires_al h).2
        rw [attentionOk_iff, this]
        exact Attention.agrees_raise _ _
      | run | halt | sreset | registerWriteIgnored => exact absurd rfl hc
      | _ => cases hm
    · exact (event_raised h (by simpa using hm)).2 hs

theorem kept_attentionOk : Kept State.attentionOk where
  queue _ _ h := h
  time s dt h := by rw [attentionOk_iff, elapse_al]; exact h
  reset s _ := by simp [State.attentionOk, State.hardReset, State.reset, Attention.reset]
  event _ s t hs h := (settledRecords_raised (settle_settled t s).records).2 (event_attentionOk h hs)

/-! ## WARN (R156) -/

/-- No event but a register write and the end of CLEARING starts or stops the part. -/
theorem event_live {c : Instr} {s t : State} (h : eventOf c s = some t) (hc : isControl c = false) :
    t.al.part.live = s.al.part.live := by
  by_cases hm : movesPart c = true
  · cases c with
    | clearingEnd =>
      simp only [eventOf, clearingEnded] at h
      split at h <;> cases h
      rename_i hd
      simp only [State.clearingDone, Bool.and_eq_true, beq_iff_eq] at hd
      have hp : s.al.part = .clearing := hd.1.1.1.1.1.1.2
      simp [hp, PartState.live]
    | frameStart => rw [(frameEdge_al h).1, (frameEdge_spec h).1]
    | frameWatchdogExpiry =>
      obtain ⟨hp, hal⟩ := watchdogExpires_al h
      rw [hal, hp]
      rfl
    | run | halt | sreset | registerWriteIgnored => cases hc
    | _ => cases hm
  · rw [(event_raised h (by simpa using hm)).1]

/-- Only a close moves the stretch count and WARN. -/
theorem event_warn {c : Instr} {s t : State} (h : eventOf c s = some t) (hc : isControl c = false)
    (hn : ∀ dt, c ≠ .slotClose dt) : t.rw.warnCount = s.rw.warnCount ∧ t.rw.warnOut = s.rw.warnOut := by
  cases c with
  | run | halt | sreset | registerWriteIgnored => cases hc
  | slotClose dt => exact absurd rfl (hn dt)
  | memoryAccessComplete =>
    simp only [eventOf, accessCompletes] at h
    split at h <;> cases h
    rename_i a _
    generalize hu : (if a.failed = true then
      (s.withMa { s.ma with inflight := none }).latchFault a.addr
      else s.withMa { s.ma with inflight := none }) = u
    have hrw : u.rw = s.rw := by rw [← hu]; split <;> rfl
    rw [← hrw]
    unfold State.accessHeard
    split
    · unfold State.recordWriterHears State.slotJudged State.raiseIf
      split
      · dsimp only
        split <;> split <;> exact ⟨rfl, rfl⟩
      · exact ⟨rfl, rfl⟩
    · rw [portHears_frame]; exact ⟨rfl, rfl⟩
    · rw [readerHears_frame]; exact ⟨rfl, rfl⟩
    · rw [loaderHears_frame]; exact ⟨rfl, rfl⟩
  | frameStart =>
    obtain ⟨-, rfl⟩ := frameEdge_spec h
    rw [beginLook_frame]
    rw [(frameOrNone_warn _ s).1, (frameOrNone_warn _ s).2, adoptPending_frame]
    exact ⟨rfl, rfl⟩
  | bandComputeEnd =>
    simp only [eventOf, bandComputed] at h
    split at h <;> cases h
    unfold State.endFinishing
    split
    · split
      · rw [loadFinishes_spec]; exact ⟨rfl, rfl⟩
      · exact ⟨rfl, rfl⟩
    · exact ⟨rfl, rfl⟩
  | frameWatchdogExpiry =>
    simp only [eventOf, watchdogExpires] at h
    split at h
    · split at h <;> cases h
      rw [cutFrame_frame]
      exact ⟨rfl, rfl⟩
    · cases h
  | slotOpen =>
    simp only [eventOf, slotOpened] at h
    split at h <;> cases h <;> exact ⟨rfl, rfl⟩
  | bandRecordWrite =>
    simp only [eventOf, recordTakenUp] at h
    split at h <;> cases h
    exact ⟨rfl, rfl⟩
  | recordWritten =>
    simp only [eventOf, recordDone] at h
    split at h <;> cases h
    rw [takeWaiting_frame, frameHears_frame]
    exact ⟨rfl, rfl⟩
  | _ => rw [event_touches h]; exact ⟨rfl, rfl⟩

theorem event_warnOk {c : Instr} {s t : State} (h : eventOf c s = some t) (hs : s.warnOk) : t.warnOk := by
  by_cases hc : isControl c = true
  · rcases control_cases h hc with h | h | h | ⟨h, hr⟩
    · obtain ⟨-, rfl⟩ := runCommand_spec h
      have hp := (sendBreak_raised (s.withAl { s.al with part := .armed })).1
      simp only [State.warnOk, hp]
      rfl
    · obtain ⟨-, rfl⟩ := haltCommand_spec h
      simp [State.warnOk, PartState.live]
    · obtain ⟨-, rfl⟩ := sresetCommand_spec h
      rfl
    · rw [h, State.warnOk]
      dsimp only
      rw [hr.1]
      exact hs
  · rw [Bool.not_eq_true] at hc
    by_cases hn : ∃ dt, c = .slotClose dt
    · obtain ⟨dt, rfl⟩ := hn
      simp only [eventOf, slotCloses] at h
      split at h <;> cases h
      rfl
    · obtain ⟨hcount, hout⟩ := event_warn h hc (not_exists.mp hn)
      rw [State.warnOk, hcount, hout, event_live h hc]
      exact hs

theorem settle_warnOk {u : State} (b : State) (h : u.warnOk) : (u.settle b).warnOk := by
  have hr := (settle_settled u b).records
  rw [State.warnOk, hr.part]
  rcases hr with ⟨hrw, -⟩ | ⟨_, _, -, -, -, hrw, -⟩ <;> rw [hrw] <;> exact h

theorem kept_warnOk : Kept State.warnOk where
  queue _ _ h := h
  time s dt h := by rw [State.warnOk, elapse_rw, elapse_al]; exact h
  reset _ _ := Eq.refl false
  event _ s _ hs h := settle_warnOk s (event_warnOk h hs)

/-- Settles O51: each part of a step keeps ATTN and WARN. -/
theorem everyStepKeepsAttnAndWarn : Obligations.EveryStepKeepsAttnAndWarn := fun _ _ ha hw h =>
  (kept_attentionOk.and kept_warnOk).step ⟨ha, hw⟩ h

/-! ## The link is OFF exactly out of ARMED, RUNNING and FRAMELESS (R120) -/

/-- OFF, the link has nothing waiting, in flight or owed. -/
def Link.OffOk (lc : Link) : Prop :=
  lc.st = .off → lc.tick = none ∧ lc.trans = none ∧ lc.waiting = none ∧ lc.owed = false

/-- `b` is `a` after an event of the link: a link that is OFF stays as it is, and none goes OFF. -/
def Link.Runs (a b : Link) : Prop := (a.st = .off → b = a) ∧ (b.st = .off → a.st = .off)

theorem Link.Runs.refl (a : Link) : a.Runs a := ⟨fun _ => rfl, id⟩

theorem Link.Runs.of_ne {a b : Link} (ha : a.st ≠ .off) (hb : b.st ≠ .off) : a.Runs b :=
  ⟨fun h => absurd h ha, fun h => absurd h hb⟩

theorem Link.Runs.trans {a b c : Link} (h : a.Runs b) (k : b.Runs c) : a.Runs c :=
  ⟨fun e => by rw [k.1 (by rw [h.1 e]; exact e), h.1 e], fun e => h.2 (k.2 e)⟩

theorem linkFree_on (s : State) : s.linkFree.lc.st ≠ .off := by
  unfold State.linkFree; split <;> exact nofun

theorem sendBreak_on (s : State) : s.sendBreak.lc.st ≠ .off := by rw [sendBreak_frame]; exact nofun

theorem linkAfterBreak_on (s : State) : s.linkAfterBreak.lc.st ≠ .off := by
  unfold State.linkAfterBreak
  dsimp only
  split
  · exact sendBreak_on _
  · exact nofun

theorem markDue_runs (s : State) (x : Axis) (n : Nat) : s.lc.Runs (s.markDue x n).lc := by
  unfold State.markDue
  split
  · rename_i h; exact .of_ne (by rw [h]; exact nofun) nofun
  · rename_i h
    have on : s.lc.st ≠ .off := by rw [h]; exact nofun
    split
    · split
      · exact .of_ne on nofun
      · exact .of_ne on on
    · exact .of_ne on on
  iterate 2 (rename_i h; exact .of_ne (by rw [h]; exact nofun) (by rw [State.withLc_lc, h]; exact nofun))
  all_goals exact .refl _

theorem breakForDetach_runs (s : State) : s.lc.Runs s.breakForDetach.lc := by
  unfold State.breakForDetach
  split
  iterate 4 (rename_i h; exact .of_ne (by rw [h]; exact nofun) (sendBreak_on s))
  iterate 2
    rename_i h
    split
    · exact .refl _
    · exact .of_ne (by rw [h]; exact nofun) (sendBreak_on s)
  all_goals exact .refl _

theorem breakForRate_runs (s : State) : s.lc.Runs s.breakForRate.lc := by
  unfold State.breakForRate
  split
  iterate 4 (rename_i h; exact .of_ne (by rw [h]; exact nofun) (sendBreak_on s))
  · rename_i h
    split
    · rw [axesBreakBegin_spec]
      exact .of_ne (by rw [h]; exact nofun) (by rw [State.withLc_lc, h]; exact nofun)
    · exact .of_ne (by rw [h]; exact nofun) (sendBreak_on s)
  iterate 2 (rename_i h; exact .of_ne (by rw [h]; exact nofun) (by rw [State.withLc_lc, h]; exact nofun))
  exact .refl _

theorem startTimer_runs (s : State) : s.lc.Runs s.startTimer.lc := by
  unfold State.startTimer
  split
  iterate 4 (rename_i h _; exact .of_ne (by rw [h]; exact nofun) (by rw [State.withLc_lc, h]; exact nofun))
  exact .refl _

theorem adoptPending_runs (s : State) : s.lc.Runs s.adoptPending.lc := by
  unfold State.adoptPending State.servesSettings
  split
  · dsimp only
    refine Link.Runs.trans ?_ (startTimer_runs _)
    have hp : ∀ u : State, ∀ c, (u.profileAdopts c).lc = u.lc := fun u c => by rw [profileAdopts_frame]
    have hm : ∀ (u : State) f, (u.moveAxes f).lc = u.lc := fun u f => by rw [moveAxes_frame]
    rename_i a _
    have hlc : (((s.comesInForce a (s.ft.frameNo + 1)).axesAdopt s.mode s.unit a.settings).markChanged
        s).lc = s.lc := hm _ _
    rw [← hlc, ← hp _ a.settings]
    split
    · exact .refl _
    · exact breakForRate_runs _
  · exact .refl _

theorem deliver_lc (s : State) (x : Axis) (n : Nat) (c : Completion) (y : Option (Sample × Byte)) :
    (s.deliver x n c y).lc = s.lc := by rw [deliver_frame]

theorem inTransaction_some {s : State} {st : LinkState} {m : Transaction} (h : s.inTransaction st = some m) :
    s.lc.st = st ∧ s.lc.trans = some m := by
  unfold State.inTransaction at h
  split at h
  · exact ⟨‹_›, h⟩
  · cases h

theorem endTransaction_on (s : State) (m : Transaction) : (s.endTransaction m).lc.st ≠ .off :=
  linkFree_on _

theorem misread_sending {s : State} {m : Transaction} {i : Nat} (h : s.misread = some (m, i)) :
    s.lc.st = .sending := by
  unfold State.misread at h
  split at h
  · rename_i ht _; exact (inTransaction_some ht).1
  · cases h

theorem frameRead_some {s : State} {f : RxFrame} {r : Reading} (h : s.frameRead = some (f, r)) :
    s.lc.st = .receiving ∧ s.lc.trans = none ∧ s.lc.rx = some f ∧ s.lc.reading = some r := by
  unfold State.frameRead at h
  split at h
  · rename_i h1 h2 h3 h4
    cases h
    exact ⟨h1, h2, h3, h4⟩
  · cases h

theorem noteEnded_receiving {s : State} {x : Byte × List Byte × Byte} (h : s.noteEnded = some x) :
    s.lc.st = .receiving := by
  unfold State.noteEnded at h
  split at h
  · rename_i hh
    unfold State.headerEnded at hh
    split at hh
    · rename_i hf; exact (frameRead_some hf).1
    · cases hh
  · cases h

theorem sensedLevel_some {lc : Link} {d : DominantMeasure} (h : lc.sensedLevel = some d) :
    lc.st = .breakRx ∧ lc.breakOver = false ∧ lc.dominant = some d := by
  unfold Link.sensedLevel at h
  split at h
  · rename_i h1 h2; exact ⟨h1, h2, h⟩
  · cases h

theorem event_runs {c : Instr} {s t : State} (h : eventOf c s = some t) (hc : isControl c = false)
    (hoff : s.lc.OffOk) : s.lc.Runs t.lc := by
  cases c with
  | run | halt | sreset | registerWriteIgnored => cases hc
  | frameStart _ highFor =>
    obtain ⟨-, rfl⟩ := frameEdge_spec h
    rw [beginLook_frame, frameOrNone_frame]
    exact adoptPending_runs (s.takesT0 highFor)
  | mountSample =>
    simp only [eventOf, State.lensSampled] at h
    split at h
    · split at h <;> cases h
      · exact .refl _
      · unfold State.laterSample
        dsimp only
        split
        · exact .refl _
        · refine Link.Runs.trans ?_ (breakForDetach_runs _)
          rw [axesDetach_spec]
          exact .refl _
        · exact .refl _
    · cases h
  | markTick =>
    simp only [eventOf, markTicked] at h
    have hd : ∀ tick, s.lc.tick = some tick → s.lc.st ≠ .off := fun tick k e => by
      rw [(hoff e).1] at k; cases k
    have hst : s.dropWaiting.lc.st = s.lc.st := by rw [dropWaiting_frame]
    split at h
    · rename_i tick htick
      split at h
      · split at h <;> cases h
        · refine Link.Runs.trans ?_ (markDue_runs _ _ _)
          exact .of_ne (hd tick htick) (by rw [State.withLc_lc]; dsimp only; rw [hst]; exact hd tick htick)
        · exact .of_ne (hd tick htick) (by rw [State.withLc_lc]; dsimp only; rw [hst]; exact hd tick htick)
      · cases h
    · cases h
  | endOfData =>
    simp only [eventOf, dataEnded] at h
    split at h
    · rename_i ht _
      have on : s.lc.st ≠ .off := by rw [(inTransaction_some ht).1]; exact nofun
      split at h
      · split at h <;> cases h <;> exact .of_ne on nofun
      · cases h
    · cases h
  | replyWindowClose =>
    simp only [eventOf, windowCloses] at h
    split at h
    · rename_i ht
      have on : s.lc.st ≠ .off := by rw [(inTransaction_some ht).1]; exact nofun
      split at h
      · split at h <;> cases h
        exact .of_ne on (endTransaction_on _ _)
      · cases h
    · cases h
  | replyReceived =>
    simp only [eventOf, State.replyRead] at h
    split at h
    · rename_i hb
      split at h <;> cases h
      unfold State.replyBits at hb
      split at hb
      · rename_i ht _
        have hst := (inTransaction_some ht).1
        exact .of_ne (by rw [hst]; exact nofun) (by rw [State.withLc_lc, hst]; exact nofun)
      · cases hb
    · cases h
  | transactionEnd =>
    simp only [eventOf, transactionEnds] at h
    split at h
    · rename_i ht
      split at h <;> cases h
      exact .of_ne (by rw [(inTransaction_some ht).1]; exact nofun) (endTransaction_on _ _)
    · cases h
  | lostArbitration =>
    simp only [eventOf, arbitrationLost] at h
    split at h
    · rename_i hm
      split at h <;> cases h
      rw [deliver_lc]
      exact .of_ne (by rw [misread_sending hm]; exact nofun) nofun
    · cases h
  | bitFault =>
    simp only [eventOf, bitFaulted] at h
    split at h
    · rename_i hm
      split at h <;> cases h
      exact .of_ne (by rw [misread_sending hm]; exact nofun) nofun
    · cases h
  | receivedFrameFraming =>
    simp only [eventOf, State.framingFound] at h
    split at h
    · rename_i ht
      have hst := (inTransaction_some ht).1
      split at h <;> cases h
      exact .of_ne (by rw [hst]; exact nofun) (by rw [State.withLc_lc, hst]; exact nofun)
    · rename_i hf
      have hst := (frameRead_some hf).1
      split at h <;> cases h
      exact .of_ne (by rw [hst]; exact nofun) (by rw [State.withLc_lc, hst]; exact nofun)
    · cases h
  | noteReceived =>
    simp only [eventOf, State.noteRead] at h
    split at h
    · rename_i hn
      have on : s.lc.st ≠ .off := by rw [noteEnded_receiving hn]; exact nofun
      split at h <;> cases h <;> exact .of_ne on (linkFree_on _)
    · cases h
  | breakRecognised =>
    simp only [eventOf, State.breakSensed] at h
    split at h <;> cases h
    rename_i hb
    refine .of_ne (fun e => ?_) (by rw [senseBreak_frame]; exact nofun)
    simp [State.breakPresent, Link.sensesBreaks, e] at hb
  | sentBreakRelease =>
    simp only [eventOf, State.breakReleased] at h
    split at h
    · rename_i hst _
      have on : s.lc.st ≠ .off := by rw [hst]; exact nofun
      split at h
      · split at h <;> cases h
        · rw [axesBreakEnd_spec]
          exact .of_ne on (by rw [State.withLc_lc, hst]; exact nofun)
        · exact .of_ne on nofun
      · cases h
    · cases h
  | sensedBreakEnd =>
    simp only [eventOf, sensedBreakEnds] at h
    split at h
    · rename_i hd
      have hst := (sensedLevel_some hd).1
      split at h <;> cases h
      rw [axesBreakEnd_spec]
      exact .of_ne (by rw [hst]; exact nofun) (by rw [State.withLc_lc, hst]; exact nofun)
    · cases h
  | linkFreeAfterBreak =>
    simp only [eventOf, breakWaited] at h
    split at h <;> cases h
    rename_i hw
    refine .of_ne (fun e => ?_) (linkAfterBreak_on _)
    simp [Link.waitsAfterBreak, e] at hw
  | stuck =>
    simp only [eventOf, becomesStuck] at h
    split at h
    · rename_i hd
      split at h <;> cases h
      rw [axesStuck_spec]
      exact .of_ne (by rw [(sensedLevel_some hd).1]; exact nofun) nofun
    · cases h
  | stuckEnd =>
    simp only [eventOf, stuckEnds] at h
    split at h <;> cases h
    rename_i hst
    exact .of_ne (by rw [hst.1]; exact nofun) (linkAfterBreak_on _)
  | receivedFrameBegin =>
    simp only [eventOf, frameSeen] at h
    split at h <;> cases h
    rename_i hst _
    exact .of_ne (by rw [hst]; exact nofun) nofun
  | receivedFrameEnd =>
    simp only [eventOf, frameOver] at h
    split at h
    · rename_i hf
      split at h <;> cases h
      exact .of_ne (by rw [(frameRead_some hf).1]; exact nofun) (linkFree_on _)
    · cases h
  | _ => rw [event_touches h]; exact .refl _

theorem event_linkOk {c : Instr} {s t : State} (h : eventOf c s = some t) (hs : s.linkOk) : t.linkOk := by
  obtain ⟨hst, hoff⟩ := hs
  by_cases hc : isControl c = true
  · rcases control_cases h hc with h | h | h | ⟨h, hr⟩
    · obtain ⟨-, rfl⟩ := runCommand_spec h
      have hp := (sendBreak_raised (s.withAl { s.al with part := .armed })).1
      have on := sendBreak_on (s.withAl { s.al with part := .armed })
      simp only [State.linkOk, hp]
      exact ⟨⟨fun e => absurd e on, nofun⟩, fun e => absurd e on⟩
    · obtain ⟨-, rfl⟩ := haltCommand_spec h
      exact ⟨⟨fun _ => rfl, fun _ => rfl⟩, fun _ => ⟨rfl, rfl, rfl, rfl⟩⟩
    · obtain ⟨-, rfl⟩ := sresetCommand_spec h
      exact ⟨⟨fun _ => rfl, fun _ => rfl⟩, fun _ => ⟨rfl, rfl, rfl, rfl⟩⟩
    · rw [h, State.linkOk]
      dsimp only
      rw [hr.1]
      exact ⟨hst, hoff⟩
  · rw [Bool.not_eq_true] at hc
    obtain ⟨hkeeps, hback⟩ := event_runs h hc hoff
    have hiff : t.lc.st = .off ↔ s.lc.st = .off := ⟨hback, fun e => by rw [hkeeps e]; exact e⟩
    refine ⟨by rw [hiff, event_live h hc]; exact hst, fun e => ?_⟩
    rw [hkeeps (hback e)]
    exact hoff (hback e)

theorem kept_linkOk : Kept State.linkOk where
  queue _ _ h := h
  time s dt h := by
    obtain ⟨hst, hoff⟩ := h
    have hp := elapse_passed s dt
    have hiff : (s.elapse dt).lc.st = .off ↔ s.lc.st = .off := by
      refine ⟨fun e => ?_, fun e => by rw [elapse_off s dt e]; exact e⟩
      rcases hp.state with k | ⟨-, k⟩ <;> rw [k] at e
      · exact e
      · cases e
    refine ⟨by rw [hiff, elapse_al]; exact hst, fun e => ?_⟩
    rw [elapse_off s dt (hiff.mp e)]
    exact hoff (hiff.mp e)
  reset _ _ := ⟨⟨fun _ => rfl, fun _ => rfl⟩, fun _ => ⟨rfl, rfl, rfl, rfl⟩⟩
  event _ s t hs h := by
    have hset := settle_settled t s
    rw [State.linkOk, hset.lc, hset.records.part]
    exact event_linkOk h hs

/-! ## READY only on a PRESENT mount (R84, R94) -/

/-- What a change of profile state may do on a mount: READY needs it PRESENT, or was there before. -/
def ReadyOn (m : Mount) (a b : ProfileLoader) : Prop := b.st = .ready → m = .present ∨ a.st = .ready

theorem loadFinishes_readyOn (s : State) (l : Load) : ReadyOn s.ms.mount s.pl (s.loadFinishes l).pl := by
  rw [loadFinishes_spec]
  intro h
  dsimp only at h
  split at h
  · rename_i hr; exact .inl hr.1
  · cases h

theorem profileAdopts_readyOn (s : State) (c : Settings) :
    ReadyOn s.ms.mount s.pl (s.profileAdopts c).pl := by
  unfold State.profileAdopts
  split
  · exact nofun
  · split
    · split
      · exact fun _ => .inl ‹_›
      · exact .inr
    · split
      · split
        · exact nofun
        · exact .inr
      · split
        · exact nofun
        · exact .inr
      · exact .inr
    · exact .inr

theorem adoptPending_readyOn (s : State) : ReadyOn s.ms.mount s.pl s.adoptPending.pl := by
  unfold State.adoptPending State.servesSettings
  split
  · dsimp only
    rename_i a _
    have hm : ∀ (u : State) f, (u.moveAxes f).pl = u.pl ∧ (u.moveAxes f).ms = u.ms := fun u f => by
      rw [moveAxes_frame]; exact ⟨rfl, rfl⟩
    have hrate : ∀ u : State, u.breakForRate.pl = u.pl := by
      have hsent : ∀ u : State, u.sendBreak.pl = u.pl := fun u => by rw [sendBreak_frame]
      intro u
      unfold State.breakForRate
      split
      iterate 4 exact hsent u
      · split
        · rw [axesBreakBegin_spec]; rfl
        · exact hsent u
      all_goals rfl
    generalize hu : ((s.comesInForce a (s.ft.frameNo + 1)).axesAdopt s.mode s.unit
      a.settings).markChanged s = u
    have hpl : u.pl = s.pl := by rw [← hu]; exact (hm _ _).1
    have hms : u.ms = s.ms := by rw [← hu]; exact (hm _ _).2
    have hr := profileAdopts_readyOn u a.settings
    rw [hpl, hms] at hr
    rw [startTimer_frame]
    split
    · exact hr
    · rw [hrate]; exact hr
  · exact .inr

theorem accessHeard_profileState (s : State) (a : Access) : (s.accessHeard a).pl.st = s.pl.st := by
  unfold State.accessHeard
  split
  · unfold State.recordWriterHears
    split
    · rw [slotJudged_frame]
    · rfl
  · rw [portHears_frame]
  · rw [readerHears_frame]
  · unfold State.loaderHears
    split <;> rfl

theorem event_profileOk {c : Instr} {s t : State} (h : eventOf c s = some t) (hs : s.profileOk) :
    t.profileOk := by
  obtain ⟨hready, hraw⟩ := hs
  -- the events that leave the mount sensor alone
  have stand : t.ms = s.ms → ReadyOn s.ms.mount s.pl t.pl → t.profileOk := fun hms hpl => by
    rw [State.profileOk, hms]
    exact ⟨fun e => (hpl e).elim id hready, hraw⟩
  have same : t.ms = s.ms → t.pl.st = s.pl.st → t.profileOk := fun hms hpl =>
    stand hms fun e => .inr (hpl ▸ e)
  by_cases hc : isControl c = true
  · rcases control_cases h hc with h | h | h | ⟨h, -⟩
    · rw [runCommand_frame h]; exact ⟨hready, hraw⟩
    · obtain ⟨-, rfl⟩ := haltCommand_spec h
      exact ⟨hready, hraw⟩
    · obtain ⟨-, rfl⟩ := sresetCommand_spec h
      exact ⟨nofun, hraw⟩
    · rw [h]; exact ⟨hready, hraw⟩
  cases c with
  | run | halt | sreset | registerWriteIgnored => exact absurd rfl hc
  | memoryAccessComplete =>
    refine same (by rw [event_touches h]; rfl) ?_
    simp only [eventOf, accessCompletes] at h
    split at h <;> cases h
    rw [accessHeard_profileState]
    split <;> rfl
  | frameStart _ highFor =>
    refine stand (by rw [event_touches h]; rfl) ?_
    obtain ⟨-, rfl⟩ := frameEdge_spec h
    rw [beginLook_frame, frameOrNone_frame]
    exact adoptPending_readyOn (s.takesT0 highFor)
  | bandComputeEnd =>
    refine stand (by rw [event_touches h]; rfl) ?_
    simp only [eventOf, bandComputed] at h
    split at h <;> cases h
    unfold State.endFinishing
    split
    · split
      · exact loadFinishes_readyOn (s.handOver _ _) _
      · exact .inr
    · exact .inr
  | profileHeaderFetched =>
    refine stand (by rw [event_touches h]; rfl) ?_
    simp only [eventOf, headerFetched] at h
    split at h
    · split at h
      · split at h <;> cases h
        · exact nofun
        · exact .inr
      · cases h
    · cases h
  | profileBodyFetched =>
    refine stand (by rw [event_touches h]; rfl) ?_
    simp only [eventOf, bodyFetched] at h
    split at h
    · split at h
      · split at h
        · cases h; exact nofun
        · split at h <;> cases h
          · exact .inr
          · exact loadFinishes_readyOn _ _
      · cases h
    · cases h
  | mountSample dt lens =>
    simp only [eventOf, State.lensSampled] at h
    split at h
    · split at h <;> cases h
      · rename_i hnone
        refine ⟨fun e => ?_, nofun⟩
        have habs := hraw hnone
        rw [hready e] at habs
        cases habs
      · unfold State.laterSample
        dsimp only
        split
        · exact ⟨fun _ => rfl, nofun⟩
        · have hdet : ∀ u : State, u.breakForDetach.pl = u.pl ∧ u.breakForDetach.ms = u.ms := by
            have hsent : ∀ u : State, u.sendBreak.pl = u.pl ∧ u.sendBreak.ms = u.ms := fun u => by
              rw [sendBreak_frame]; exact ⟨rfl, rfl⟩
            intro u
            unfold State.breakForDetach
            split
            iterate 4 exact hsent u
            iterate 2
              split
              · exact ⟨rfl, rfl⟩
              · exact hsent u
            all_goals exact ⟨rfl, rfl⟩
          unfold State.detach
          dsimp only
          rw [State.profileOk, (hdet _).1, (hdet _).2, axesDetach_spec]
          refine ⟨fun e => ?_, nofun⟩
          exfalso
          revert e
          simp only [State.withPl_pl, ProfileLoader.detach]
          split
          · exact nofun
          · rename_i k; dsimp only; rw [k]; exact nofun
          all_goals rename_i k; rw [k]; exact nofun
        · exact ⟨hready, nofun⟩
    · cases h
  | _ => exact same (by rw [event_touches h]; rfl) (by rw [event_touches h]; rfl)

theorem kept_profileOk : Kept State.profileOk where
  queue _ _ h := h
  time s dt h := by rw [State.profileOk, elapse_pl, elapse_ms]; exact h
  reset _ _ := ⟨nofun, fun _ => rfl⟩
  event _ s t hs h := by
    have hset := settle_settled t s
    rw [State.profileOk, hset.pl, hset.ms]
    exact event_profileOk h hs

/-- Settles O53: each part of a step keeps the link and the profile. -/
theorem everyStepKeepsLinkAndProfile : Obligations.EveryStepKeepsLinkAndProfile := fun _ _ hl hp h =>
  (kept_linkOk.and kept_profileOk).step ⟨hl, hp⟩ h

end Sys2Proof.Machine

/-! PROOFS. What every step keeps of a part in hard reset and of the axis records: settles O54, O56. -/

namespace Sys2Proof.Machine

/-! ## Hard reset (R181) -/

/-- A part in hard reset with a strobe on its inputs and words in its memory. -/
def State.heldWith (s : State) (k : Option Strobe) (m : Memory) : State :=
  { s.hardReset with sp := { SystemPort.reset with strobe := k }, mem := m }

/-- In hard reset only the port's inputs and a disturbance are seen, and RESETn returning high. -/
theorem event_held {c : Instr} {s t : State} (h : eventOf c s.hardReset = some t)
    (ht : t.clk.resetn = false) : ∃ k m, t = s.heldWith k m := by
  cases c with
  | resetnRelease => cases h; cases ht
  | portMemoryRead | portMemoryWrite =>
    simp only [eventOf, State.strobeBegins] at h
    split at h <;> cases h
    exact ⟨_, _, rfl⟩
  | portStrobeEnd =>
    simp only [eventOf, strobeEnds] at h
    split at h <;> cases h
    exact ⟨_, _, rfl⟩
  | wordDisturbed => rw [disturbed_frame h]; exact ⟨_, _, rfl⟩
  | run | halt | sreset =>
    simp only [eventOf, State.controlWrite, State.takesRegisterWrite, State.takesWrites] at h
    simp [State.hardReset] at h
  | causesWrite | enablesWrite =>
    simp only [eventOf, State.causesWritten, State.enablesWritten, State.takesRegisterWrite,
      State.takesWrites] at h
    simp [State.hardReset] at h
  | registerWriteIgnored =>
    simp only [eventOf, State.registerWrite, State.controlWrite, State.causesWritten,
      State.enablesWritten, State.takesRegisterWrite, State.takesWrites] at h
    simp [State.hardReset] at h
  | tbLoRead =>
    simp only [eventOf, tbLoReadDone] at h
    simp [State.hardReset] at h
  | blankingExpiry dt axis =>
    cases axis <;> exact absurd (show none = some t from h) nofun
  | _ => exact absurd (show none = some t from h) nofun

/-- In hard reset no field has changed, no requestor has anything to present and nothing is granted. -/
theorem settle_held (s : State) (k : Option Strobe) (m : Memory) :
    (s.heldWith k m).settle s.hardReset = s.heldWith k m := by
  have hmarks : (s.heldWith k m).markChanged s.hardReset = s.heldWith k m := by
    have hsame : ∀ f, (s.heldWith k m).mirrorWords f = s.hardReset.mirrorWords f := fun f => by
      cases f with
      | axis x i => cases x <;> rfl
      | _ => rfl
    have hnone : marksWith (s.heldWith k m).sr.marks
        (fun f => (s.heldWith k m).mirrorWords f != s.hardReset.mirrorWords f) = [] := by
      simp only [hsame, bne_self_eq_false]
      exact (rfl : marksWith [] (fun _ => false) = [])
    rw [State.markChanged, hnone]
    rfl
  have hpresent : (s.heldWith k m).present = s.heldWith k m := rfl
  rw [State.settle, hmarks, hpresent, grant_held rfl, hpresent]

theorem elapse_resetHeld (s : State) (dt : Span) (h : s.resetHeld) : (s.elapse dt).resetHeld := by
  have hpass : ∀ (u : State) d, u.clk.resetn = false → u.pass d = u := fun u d k => by
    simp [State.pass, k]
  have hedge : ∀ u : State, u.resetHeld → u.edge.resetHeld := by
    intro u hu k
    rw [(edge_passed u).resetn] at k
    have hw : u.wire = { Wire.reset with level := u.wire.level } := congrArg State.wire (hu k)
    have hnew : ∀ level, u.withWire { u.wire with level := level, age := 0 } =
        (u.withWire { u.wire with level := level, age := 0 }).hardReset := fun level => by
      have hreset : ({ u.wire with level := level, age := 0 } : Wire) =
          { Wire.reset with level := level } := by rw [hw]; rfl
      rw [hreset]
      exact congrArg (·.withWire { Wire.reset with level := level }) (hu k)
    unfold State.edge
    split
    · exact hnew _
    · simp only [k, Bool.false_eq_true, if_false]
      exact hnew _
  have hpass' : ∀ (u : State) d, u.resetHeld → (u.pass d).resetHeld := fun u d hu k => by
    rw [(pass_passed u d).resetn] at k
    rw [hpass u d k]
    exact hu k
  fun_induction State.elapse s dt with
  | case1 s => exact h
  | case2 s d => exact hpass' s d h
  | case3 s d e rest ih => exact ih (hedge _ (hpass' s d h))

theorem kept_resetHeld : Kept State.resetHeld where
  queue s q h k := congrArg (·.withPending q) (h k)
  time := elapse_resetHeld
  reset _ _ _ := rfl
  event c s t hs h k := by
    have ht : t.clk.resetn = false := by rw [← (settle_settled t s).clk]; exact k
    by_cases hr : ∃ dt, c = .resetnRelease dt
    · obtain ⟨dt, rfl⟩ := hr
      simp only [eventOf, resetnReleased] at h
      split at h <;> cases h
      cases ht
    have hclk : t.clk = s.clk := by
      rw [event_touches h]
      cases c with
      | resetnRelease dt => exact absurd ⟨dt, rfl⟩ hr
      | _ => rfl
    have hheld := hs (by rw [← hclk]; exact ht)
    rw [hheld] at h
    obtain ⟨strobe, m, rfl⟩ := event_held h ht
    have hsettle : (s.heldWith strobe m).settle s = s.heldWith strobe m := by
      conv_lhs => rw [hheld]
      exact settle_held s strobe m
    rw [hsettle]
    rfl

/-- Settles O56: each part of a step leaves a part in hard reset as it is. -/
theorem everyStepKeepsHardReset : Obligations.EveryStepKeepsHardReset := fun _ _ => kept_resetHeld.step

/-! ## Axis records and their modes (R22, R27, R28) -/

section
variable {x : Axis} {mode : AxisMode} {r : AxisRec}

/-- What an axis in mode TRACK owes: it tracks, its track rises within its capacity, its misses are in range. -/
theorem axisOk_track : axisOk x .track r ↔ (r.st ≠ .idle ∧ r.st ≠ .fixed) ∧
    trackRises r.track = true ∧ r.track.length ≤ trackCap x ∧ r.misses ≤ 255 :=
  ⟨fun h => ⟨h.2.2.1 rfl, h.2.2.2⟩, fun h => ⟨nofun, nofun, fun _ => h.1, h.2⟩⟩

theorem axisOk_off : axisOk x .off r ↔ r = AxisRec.idle :=
  ⟨fun h => h.1 rfl, by rintro rfl; exact ⟨fun _ => rfl, nofun, nofun, rfl, Nat.zero_le _, Nat.zero_le _⟩⟩

theorem axisOk_fixed : axisOk x .fixed r ↔ r = { AxisRec.idle with st := .fixed } :=
  ⟨fun h => h.2.1 rfl, by rintro rfl; exact ⟨nofun, fun _ => rfl, nofun, rfl, Nat.zero_le _, Nat.zero_le _⟩⟩

/-- The record of a mode meets what the mode asks for. -/
theorem axisOk_ofMode : axisOk x mode (AxisRec.ofMode mode) := by
  cases mode with
  | off => exact axisOk_off.2 rfl
  | track => exact axisOk_track.2 ⟨⟨nofun, nofun⟩, rfl, Nat.zero_le _, Nat.zero_le _⟩
  | fixed => exact axisOk_fixed.2 rfl

/-- Changes that spare the state, the track and the miss count keep an axis of mode TRACK sound. -/
theorem axisOk_of_same {r' : AxisRec} (h : axisOk x .track r) (hst : r'.st = r.st)
    (htrack : r'.track = r.track) (hmisses : r'.misses = r.misses) : axisOk x .track r' := by
  rw [axisOk_track] at h ⊢
  rw [hst, htrack, hmisses]
  exact h

theorem axisOk_restart (b : Blanking) (_ : axisOk x .track r) : axisOk x .track (r.restart b) :=
  axisOk_track.2 ⟨⟨nofun, nofun⟩, rfl, Nat.zero_le _, Nat.zero_le _⟩

theorem axisOk_judgeMisses (stale lost : Nat) (h : axisOk x .track r) :
    axisOk x .track (r.judgeMisses stale lost) := by
  rw [axisOk_track] at h ⊢
  rw [AxisRec.judgeMisses_spec]
  refine ⟨?_, h.2⟩
  dsimp only
  split_ifs
  · exact ⟨nofun, nofun⟩
  · exact ⟨nofun, nofun⟩
  · exact h.1

theorem axisOk_badCompletion (stale lost : Nat) (c : Completion) (h : axisOk x .track r) :
    axisOk x .track (r.badCompletion stale lost c) := by
  by_cases hb : r.blanking = .notBlanking
  · rw [AxisRec.badCompletion_of_notBlanking _ _ _ hb]
    refine axisOk_judgeMisses _ _ ?_
    rw [axisOk_track] at h ⊢
    exact ⟨h.1, h.2.1, h.2.2.1, Nat.min_le_left _ _⟩
  · rw [AxisRec.badCompletion_of_blanking _ _ _ hb]
    exact axisOk_of_same h rfl rfl rfl

theorem trackRises_tail {t : List Sample} (h : trackRises t = true) : trackRises t.tail = true := by
  match t, h with
  | [], _ => rfl
  | [_], _ => rfl
  | a :: b :: rest, h => exact (Bool.and_eq_true _ _ ▸ h).2

theorem trackRises_append {t : List Sample} {p : Sample} (h : trackRises t = true)
    (hp : ∀ n, t.getLast? = some n → later p.time n.time = true) : trackRises (t ++ [p]) = true := by
  match t, h, hp with
  | [], _, _ => rfl
  | [a], _, hp => simpa [trackRises] using hp a rfl
  | a :: b :: rest, h, hp =>
    simp only [trackRises, Bool.and_eq_true] at h
    have hrec := trackRises_append (t := b :: rest) (p := p) h.2 fun n hn => hp n (by
      rw [List.getLast?_cons_cons]; exact hn)
    simp only [List.cons_append, trackRises, Bool.and_eq_true]
    exact ⟨h.1, hrec⟩

/-- A sample keeps its track rising within its capacity. -/
theorem offerSample_ok {t : List Sample} {cap : Nat} (p : Sample) (hcap : 1 ≤ cap)
    (h : trackRises t = true) (hl : t.length ≤ cap) :
    trackRises (offerSample cap t p) = true ∧ (offerSample cap t p).length ≤ cap := by
  cases hn : t.getLast? with
  | none =>
    rw [List.getLast?_eq_none_iff.1 hn]
    exact ⟨rfl, hcap⟩
  | some n =>
    by_cases hp : later p.time n.time = true
    · have hrise := trackRises_append (p := p) h fun m hm => by rw [hn] at hm; cases hm; exact hp
      rw [offerSample_of_later hn hl hp]
      split_ifs with hroom
      · exact ⟨hrise, by simpa using hroom⟩
      · have hne : t ≠ [] := by rintro rfl; cases hn
        rw [← List.tail_append_of_ne_nil hne]
        refine ⟨trackRises_tail hrise, ?_⟩
        simpa using hl
    · rw [offerSample_of_not_later hn (by simpa using hp)]
      exact ⟨h, hl⟩

theorem advance_tracks (q : Nat) (h : r.st ≠ .idle ∧ r.st ≠ .fixed) :
    (r.advance q).st ≠ .idle ∧ (r.advance q).st ≠ .fixed := by
  have hq : ∀ good, (r.qualify q good).st ≠ .idle ∧ (r.qualify q good).st ≠ .fixed := fun good => by
    unfold AxisRec.qualify
    dsimp only
    split_ifs <;> exact ⟨nofun, nofun⟩
  unfold AxisRec.advance
  split
  · exact hq 1
  · exact hq 1
  · exact hq _
  · exact ⟨nofun, nofun⟩
  all_goals exact h

theorem axisOk_goodReply (q : Nat) (p : Sample) (status : Byte) (h : axisOk x .track r) :
    axisOk x .track (r.goodReply (trackCap x) q p status) := by
  rw [axisOk_track] at h ⊢
  rw [AxisRec.goodReply_spec]
  have hs := offerSample_ok p (cap := trackCap x) (by cases x <;> decide) h.2.1 h.2.2.1
  exact ⟨advance_tracks q h.1, hs.1, hs.2, Nat.zero_le _⟩

theorem axisOk_complete (cfg : AxisSettings) (c : Completion) (y : Option (Sample × Byte))
    (h : axisOk x .track r) : axisOk x .track (r.complete (trackCap x) cfg c y) := by
  unfold AxisRec.complete
  split
  · split
    · exact axisOk_goodReply _ _ _ h
    · exact h
  iterate 4 exact axisOk_badCompletion _ _ _ h
  iterate 3 exact axisOk_of_same h rfl rfl rfl
  exact h

theorem axisOk_note (code : NoteCode) (pos : Option Counts) (h : axisOk x .track r) :
    axisOk x .track (r.note code pos) := by
  rw [axisOk_track] at h ⊢
  cases code with
  | none | endstop => exact h
  | fault => exact ⟨⟨nofun, nofun⟩, h.2⟩
  | rezero => exact ⟨⟨nofun, nofun⟩, rfl, Nat.zero_le _, h.2.2.2⟩

/-- Only an axis of mode TRACK is ever BLANKING. -/
theorem notBlanking_of_not_track (h : axisOk x mode r) (hm : mode ≠ .track) : r.blanking = .notBlanking := by
  cases mode with
  | off => rw [axisOk_off.1 h]; rfl
  | fixed => rw [axisOk_fixed.1 h]; rfl
  | track => exact absurd rfl hm

theorem axisOk_blanking (b : Blanking) (h : axisOk x mode r) (hb : r.blanking ≠ .notBlanking) :
    axisOk x mode { r with blanking := b } := by
  by_cases hm : mode = .track
  · subst hm
    exact axisOk_of_same h rfl rfl rfl
  · exact absurd (notBlanking_of_not_track h hm) hb

theorem axisOk_breakEnd (expiry : Nat → Time) (h : axisOk x mode r) :
    axisOk x mode (r.breakEnd expiry) := by
  unfold AxisRec.breakEnd
  split
  · rename_i hb; exact axisOk_blanking _ h (by rw [hb]; exact nofun)
  · exact h
  · exact h

/-- Thresholds do not touch an axis that does not track. -/
theorem axisOk_applyThresholds (new : AxisSettings) (h : axisOk x mode r) :
    axisOk x mode (r.applyThresholds new) := by
  cases mode with
  | off => rw [axisOk_off.1 h]; exact axisOk_off.2 rfl
  | fixed => rw [axisOk_fixed.1 h]; exact axisOk_fixed.2 rfl
  | track =>
    refine axisOk_judgeMisses _ _ ?_
    split_ifs
    · rw [axisOk_track] at h ⊢
      exact ⟨⟨nofun, nofun⟩, h.2⟩
    · exact h

theorem axisOk_adopt (oldUnit : Nat) (new : AxisSettings) (h : axisOk x mode r) :
    axisOk x new.mode (r.adopt mode oldUnit new) := by
  unfold AxisRec.adopt
  split
  · exact axisOk_ofMode
  · rename_i hc
    have hm : new.mode = mode := by
      simp only [axisChanged, Bool.or_eq_true, bne_iff_ne, not_or, not_not] at hc
      exact hc.1
    rw [hm]
    exact axisOk_applyThresholds new h

end

/-! ## The operations on all three records -/

/-- Whether the axis records are sound depends on them and the settings in force. -/
theorem axesOk_congr {s t : State} (h : s.axesOk) (ha : t.axes = s.axes)
    (hi : t.sr.inForce = s.sr.inForce) : t.axesOk := by
  intro x
  have hm : t.mode x = s.mode x := by unfold State.mode; rw [hi]
  rw [ha, hm]
  exact h x

/-- An event of R37 keeps the records sound if it keeps each of them so. -/
theorem moveAxes_axesOk {s : State} {f : Axis → AxisRec → AxisRec}
    (h : ∀ x, axisOk x (s.mode x) (f x (s.axes.get x))) : (s.moveAxes f).axesOk := by
  intro x
  have hm : (s.moveAxes f).mode x = s.mode x := by rw [moveAxes_frame]; rfl
  rw [hm, moveAxes_get]
  exact h x

theorem mode_of_tracks {s : State} {x : Axis} (h : s.tracks x = true) : s.mode x = .track := beq_iff_eq.1 h

theorem moveTracked_axesOk {s : State} {f : AxisRec → AxisRec} (hs : s.axesOk)
    (h : ∀ x r, axisOk x .track r → axisOk x .track (f r)) : (s.moveTracked f).axesOk := by
  refine moveAxes_axesOk fun x => ?_
  have hx := hs x
  split
  · rename_i ht
    rw [mode_of_tracks ht] at hx ⊢
    exact h x _ hx
  · exact hx

theorem axesBreakBegin_axesOk {s : State} (h : s.axesOk) : s.axesBreakBegin.axesOk :=
  moveTracked_axesOk h fun _ _ => axisOk_restart _

theorem axesBreakEnd_axesOk {s : State} (h : s.axesOk) : s.axesBreakEnd.axesOk :=
  moveAxes_axesOk fun x => axisOk_breakEnd _ (h x)

theorem axesStuck_axesOk {s : State} (h : s.axesOk) : s.axesStuck.axesOk :=
  moveTracked_axesOk h fun _ _ k => axisOk_track.2 ⟨⟨nofun, nofun⟩, (axisOk_track.1 k).2⟩

theorem deliver_axesOk {s : State} (x : Axis) (n : Nat) (c : Completion) (y : Option (Sample × Byte))
    (h : s.axesOk) : (s.deliver x n c y).axesOk := by
  unfold State.deliver
  split
  · rename_i a ha
    dsimp only
    split
    · rename_i hm
      refine moveAxes_axesOk fun z => ?_
      have hz := h z
      split
      · subst z
        have htrack : s.mode x = .track := by simp only [State.mode, ha, hm.1]
        rw [htrack] at hz ⊢
        exact axisOk_complete _ _ _ hz
      · exact hz
    · exact h
  · exact h

theorem deliverNote_axesOk {s : State} (addr : Nat) (code : NoteCode) (pos : Option Counts)
    (h : s.axesOk) : (s.deliverNote addr code pos).axesOk := by
  refine moveAxes_axesOk fun x => ?_
  have hx := h x
  split
  · rename_i ht
    rw [mode_of_tracks ht.1] at hx ⊢
    exact axisOk_note _ _ hx
  · exact hx

theorem breakMarks_axesOk {s : State} (h : s.axesOk) : s.breakMarks.axesOk := by
  unfold State.breakMarks
  dsimp only
  refine axesOk_congr (s := match s.lc.waiting with
    | some (x, unit) => (match s.lc.trans with
      | some t => s.deliver t.axis t.unit .broken none
      | none => s).deliver x unit .broken none
    | none => match s.lc.trans with
      | some t => s.deliver t.axis t.unit .broken none
      | none => s) ?_ rfl rfl
  have ht : (match s.lc.trans with
      | some t => s.deliver t.axis t.unit .broken none
      | none => s).axesOk := by
    split
    · exact deliver_axesOk _ _ _ _ h
    · exact h
  split
  · exact deliver_axesOk _ _ _ _ ht
  · exact ht

theorem sendBreak_axesOk {s : State} (h : s.axesOk) : s.sendBreak.axesOk :=
  axesBreakBegin_axesOk (axesOk_congr (breakMarks_axesOk h) rfl rfl)

theorem linkFree_axesOk {s : State} (h : s.axesOk) : s.linkFree.axesOk := by
  rw [linkFree_frame]; exact h

theorem linkAfterBreak_axesOk {s : State} (h : s.axesOk) : s.linkAfterBreak.axesOk := by
  unfold State.linkAfterBreak
  dsimp only
  split
  · exact sendBreak_axesOk h
  · exact h

theorem endTransaction_axesOk {s : State} (m : Transaction) (h : s.axesOk) : (s.endTransaction m).axesOk :=
  linkFree_axesOk (deliver_axesOk _ _ _ _ h)

theorem breakForDetach_axesOk {s : State} (h : s.axesOk) : s.breakForDetach.axesOk := by
  unfold State.breakForDetach
  split
  iterate 4 exact sendBreak_axesOk h
  iterate 2
    split
    · exact h
    · exact sendBreak_axesOk h
  all_goals exact h

theorem breakForRate_axesOk {s : State} (h : s.axesOk) : s.breakForRate.axesOk := by
  unfold State.breakForRate
  split
  iterate 4 exact sendBreak_axesOk h
  · split
    · exact axesBreakBegin_axesOk h
    · exact sendBreak_axesOk h
  all_goals exact h

/-- Settings come in force with the records of their modes. -/
theorem adoptPending_axesOk {s : State} (h : s.axesOk) : s.adoptPending.axesOk := by
  unfold State.adoptPending
  split
  · rename_i a _
    have hadopt : ((s.comesInForce a (s.ft.frameNo + 1)).axesAdopt s.mode s.unit a.settings).axesOk :=
      moveAxes_axesOk fun x => axisOk_adopt (s.unit x) (a.settings.axis x) (h x)
    have hload : (((((s.comesInForce a (s.ft.frameNo + 1)).axesAdopt s.mode s.unit
        a.settings).markChanged s).profileAdopts a.settings)).axesOk := by
      rw [profileAdopts_frame]; exact hadopt
    unfold State.servesSettings
    dsimp only
    rw [startTimer_frame]
    split
    · exact hload
    · exact breakForRate_axesOk hload
  · exact h

/-! ## Events -/

/-- A state with the settings in force and the pending copy of another. -/
def State.SameSettings (s t : State) : Prop :=
  t.sr.inForce = s.sr.inForce ∧ t.sr.pendingCopy = s.sr.pendingCopy

theorem judgePair_settings (s : State) (sel seq : Word) (b : Bool) (n : BitVec 32) :
    s.SameSettings (s.judgePair sel seq b n) := by
  unfold State.judgePair; split <;> exact ⟨rfl, rfl⟩

theorem readerHears_settings (s : State) (a : Access) : s.SameSettings (s.readerHears a) := by
  unfold State.readerHears
  dsimp only
  split
  · unfold State.selectorRead
    split_ifs
    iterate 3 exact ⟨rfl, rfl⟩
    exact judgePair_settings _ _ _ _ _
  · exact judgePair_settings _ _ _ _ _
  · unfold State.pageWordRead
    split <;> exact ⟨rfl, rfl⟩
  · exact ⟨rfl, rfl⟩

theorem accessCompletes_settings {s t : State} (h : accessCompletes s = some t) : s.SameSettings t := by
  unfold accessCompletes at h
  split at h <;> cases h
  rename_i a _
  generalize hu : (if a.failed = true then
    (s.withMa { s.ma with inflight := none }).latchFault a.addr
    else s.withMa { s.ma with inflight := none }) = u
  have hsr : u.sr = s.sr := by rw [← hu]; split <;> rfl
  rw [State.SameSettings, ← hsr]
  unfold State.accessHeard
  split
  · unfold State.recordWriterHears
    split
    · rw [slotJudged_frame]; exact ⟨rfl, rfl⟩
    · exact ⟨rfl, rfl⟩
  · rw [portHears_frame]; exact ⟨rfl, rfl⟩
  · exact readerHears_settings u a
  · rw [loaderHears_frame]; exact ⟨rfl, rfl⟩

/-- The end of a copy sets nothing in force, and makes a copy pending only if no check refuses it. -/
theorem copyDone_settings {s t : State} (h : copyDone s = some t) :
    t.sr.inForce = s.sr.inForce ∧ (t.sr.pendingCopy = s.sr.pendingCopy ∨ ∃ a p extent,
      t.sr.pendingCopy = some a ∧ a.settings = pageSettings p ∧ pageRefusal p extent = none) := by
  unfold copyDone at h
  split at h
  · cases h; exact ⟨rfl, .inl rfl⟩
  · split at h
    · split at h <;> cases h
      · exact ⟨rfl, .inl rfl⟩
      · exact ⟨rfl, .inr ⟨_, _, _, rfl, rfl, ‹_›⟩⟩
    · cases h
  · cases h

/-- Settings come in force at a frame start and go at a soft reset, and at no other event; only the end of a copy makes
settings pending. -/
theorem event_settings {c : Instr} {s t : State} (h : eventOf c s = some t) (hc : isControl c = false)
    (hf : ∀ dt x, c ≠ .frameStart dt x) : t.sr.inForce = s.sr.inForce ∧
      (t.sr.pendingCopy = s.sr.pendingCopy ∨ ∃ a p extent,
        t.sr.pendingCopy = some a ∧ a.settings = pageSettings p ∧ pageRefusal p extent = none) := by
  cases c with
  | run | halt | sreset | registerWriteIgnored => cases hc
  | frameStart dt x => exact absurd rfl (hf dt x)
  | memoryClearDone =>
    simp only [eventOf, memoryCleared] at h
    split at h <;> cases h
    exact ⟨rfl, .inl rfl⟩
  | memoryAccessComplete => exact (accessCompletes_settings h).imp_right .inl
  | examinationBegin =>
    simp only [eventOf, examinationBegins] at h
    split at h
    · split at h <;> cases h <;> exact ⟨rfl, .inl rfl⟩
    · cases h
  | pageCopyDone => exact copyDone_settings h
  | mountSample =>
    simp only [eventOf, State.lensSampled] at h
    split at h
    · split at h <;> cases h
      · exact ⟨rfl, .inl rfl⟩
      · rw [laterSample_frame]; exact ⟨rfl, .inl rfl⟩
    · cases h
  | _ => rw [event_touches h]; exact ⟨rfl, .inl rfl⟩

theorem event_inForce {c : Instr} {s t : State} (h : eventOf c s = some t) (hc : isControl c = false)
    (hf : ∀ dt x, c ≠ .frameStart dt x) : t.sr.inForce = s.sr.inForce := (event_settings h hc hf).1

theorem runCommand_axesOk {s t : State} (h : s.runCommand = some t) (hs : s.axesOk) : t.axesOk := by
  obtain ⟨-, rfl⟩ := runCommand_spec h
  exact sendBreak_axesOk (s := s.withAl { s.al with part := .armed }) hs

theorem sresetCommand_axesOk {s t : State} (h : s.sresetCommand = some t) : t.axesOk := by
  obtain ⟨-, rfl⟩ := sresetCommand_spec h
  intro x
  cases x <;> exact axisOk_off.2 rfl

theorem beginLook_settings (s : State) :
    s.beginLook.sr.inForce = s.sr.inForce ∧ s.beginLook.sr.pendingCopy = s.sr.pendingCopy := by
  unfold State.beginLook; split <;> exact ⟨rfl, rfl⟩

@[simp] theorem frameOrNone_sr (s old : State) : (s.frameOrNone old).sr = s.sr := by rw [frameOrNone_frame]

theorem event_axesOk {c : Instr} {s t : State} (h : eventOf c s = some t) (hs : s.axesOk) : t.axesOk := by
  by_cases hc : isControl c = true
  · rcases control_cases h hc with h | h | h | ⟨h, -⟩
    · exact runCommand_axesOk h hs
    · obtain ⟨-, rfl⟩ := haltCommand_spec h
      exact hs
    · exact sresetCommand_axesOk h
    · rw [h]; exact hs
  cases c with
  | run | halt | sreset | registerWriteIgnored => exact absurd rfl hc
  | frameStart _ highFor =>
    obtain ⟨-, rfl⟩ := frameEdge_spec h
    have hk : (s.takesT0 highFor).adoptPending.axesOk := adoptPending_axesOk (s := s.takesT0 highFor) hs
    refine axesOk_congr hk (by rw [beginLook_frame, frameOrNone_frame]) ?_
    rw [(beginLook_settings _).1, frameOrNone_sr]
  | mountSample =>
    have hi := event_inForce h rfl nofun
    simp only [eventOf, State.lensSampled] at h
    split at h
    · split at h <;> cases h
      · exact hs
      · unfold State.laterSample
        dsimp only
        split
        · exact hs
        · exact breakForDetach_axesOk (moveTracked_axesOk hs fun _ _ => axisOk_restart _)
        · exact hs
    · cases h
  | blankingExpiry dt x =>
    simp only [eventOf, State.blankingEnds] at h
    split at h
    · rename_i e he
      split at h <;> cases h
      intro z
      have hz := hs z
      by_cases hzx : z = x
      · subst hzx
        rw [State.withAxes_axes, Axes.get_set_same]
        exact axisOk_blanking _ hz (by rw [he]; exact nofun)
      · rw [State.withAxes_axes, Axes.get_set_other _ _ _ _ hzx]
        exact hz
    · cases h
    · cases h
  | markTick =>
    simp only [eventOf, markTicked] at h
    have hd : s.dropWaiting.axesOk := by
      unfold State.dropWaiting
      split
      · exact deliver_axesOk _ _ _ _ hs
      · exact hs
    split at h
    · split at h
      · split at h <;> cases h
        · rw [markDue_frame]; exact hd
        · exact hd
      · cases h
    · cases h
  | replyWindowClose =>
    simp only [eventOf, windowCloses] at h
    split at h
    · split at h
      · split at h <;> cases h
        exact endTransaction_axesOk _ hs
      · cases h
    · cases h
  | transactionEnd =>
    simp only [eventOf, transactionEnds] at h
    split at h
    · split at h <;> cases h
      exact endTransaction_axesOk _ hs
    · cases h
  | lostArbitration =>
    simp only [eventOf, arbitrationLost] at h
    split at h
    · split at h <;> cases h
      exact deliver_axesOk _ _ _ _ hs
    · cases h
  | noteReceived =>
    simp only [eventOf, State.noteRead] at h
    split at h
    · split at h <;> cases h
      · exact linkFree_axesOk (deliverNote_axesOk _ _ _ hs)
      · exact linkFree_axesOk hs
    · cases h
  | breakRecognised =>
    simp only [eventOf, State.breakSensed] at h
    split at h <;> cases h
    exact axesBreakBegin_axesOk (axesOk_congr (breakMarks_axesOk hs) rfl rfl)
  | sentBreakRelease =>
    simp only [eventOf, State.breakReleased] at h
    split at h
    · split at h
      · split at h <;> cases h
        · exact axesBreakEnd_axesOk hs
        · exact hs
      · cases h
    · cases h
  | sensedBreakEnd =>
    simp only [eventOf, sensedBreakEnds] at h
    split at h
    · split at h <;> cases h
      exact axesBreakEnd_axesOk hs
    · cases h
  | linkFreeAfterBreak =>
    simp only [eventOf, breakWaited] at h
    split at h <;> cases h
    exact linkAfterBreak_axesOk hs
  | stuck =>
    simp only [eventOf, becomesStuck] at h
    split at h
    · split at h <;> cases h
      exact axesStuck_axesOk hs
    · cases h
  | stuckEnd =>
    simp only [eventOf, stuckEnds] at h
    split at h <;> cases h
    exact linkAfterBreak_axesOk (moveTracked_axesOk hs fun _ _ => axisOk_restart _)
  | _ => exact axesOk_congr hs (by rw [event_touches h]; rfl) (event_inForce h rfl nofun)

theorem kept_axesOk : Kept State.axesOk where
  queue _ _ h := h
  time s dt h := axesOk_congr h (elapse_axes s dt) (elapse_inForce s dt)
  reset _ _ x := by cases x <;> exact axisOk_off.2 rfl
  event _ s t hs h := by
    have hset := settle_settled t s
    exact axesOk_congr (event_axesOk h hs) hset.axes (by rw [hset.sr])

/-- Settles O54: each part of a step keeps every axis record sound in its mode. -/
theorem everyStepKeepsTheAxisRecords : Obligations.EveryStepKeepsTheAxisRecords := fun _ _ =>
  kept_axesOk.step

end Sys2Proof.Machine

/-! PROOFS. The end of a step, requestor by requestor: what each presents, and a step whose command is due. -/

namespace Sys2Proof.Machine

/-! ## Due and not due -/

section
variable {c : Instr} {s : State}

theorem exec_of_some {e : State} (h : eventOf c (s.elapse c.elapsed) = some e) :
    exec c s = .next (e.settle (s.elapse c.elapsed)) := by
  have hc : ∀ dt, c ≠ .resetnAssert dt := by rintro dt rfl; cases h
  rw [exec_eq_runEvent hc, runEvent, h]

/-- A due command ends in the settled state of its effect. -/
theorem exec_settled {e : State} (h : eventOf c (s.elapse c.elapsed) = some e) :
    ∃ t, exec c s = .next t ∧ Settled e t :=
  ⟨_, exec_of_some h, settle_settled _ _⟩

/-- A command that is not due lets the time pass. -/
theorem exec_of_none (hc : ∀ dt, c ≠ .resetnAssert dt) (h : eventOf c (s.elapse c.elapsed) = none) :
    exec c s = .next (s.elapse c.elapsed) := by
  rw [exec_eq_runEvent hc, runEvent_none h]

end

/-! ## What each requestor leaves alone -/

theorem presentRw_frame (s : State) : s.presentRw = { s with
    ma := { s.ma with reqRw := s.presentRw.ma.reqRw }, rw := { s.rw with work := s.presentRw.rw.work } } := by
  unfold State.presentRw
  split
  · split <;> rfl
  · rfl

theorem presentPort_frame (s : State) : s.presentPort = { s with
    ma := { s.ma with reqPort := s.presentPort.ma.reqPort },
    sp := { s.sp with phase := s.presentPort.sp.phase } } := by
  unfold State.presentPort
  split
  · split <;> rfl
  · rfl

theorem presentExam_frame (s : State) : s.presentExam = { s with
    ma := { s.ma with reqSr := s.presentExam.ma.reqSr },
    sr := { s.sr with awaiting := s.presentExam.sr.awaiting } } := by
  unfold State.presentExam
  split
  · rfl
  · rfl
  · split <;> rfl
  · rfl

theorem presentSr_frame (s : State) : s.presentSr = { s with
    ma := { s.ma with reqSr := s.presentSr.ma.reqSr },
    sr := { s.sr with
      report := s.presentSr.sr.report, marks := s.presentSr.sr.marks,
      mirrorRest := s.presentSr.sr.mirrorRest, awaiting := s.presentSr.sr.awaiting } } := by
  unfold State.presentSr
  split
  · split
    · rfl
    · rfl
    · split <;> rfl
    · rw [presentExam_frame]
  · rfl

theorem presentPl_frame (s : State) : s.presentPl = { s with
    ma := { s.ma with reqPl := s.presentPl.ma.reqPl },
    pl := { s.pl with awaiting := s.presentPl.pl.awaiting } } := by
  unfold State.presentPl
  split
  · split
    · split <;> rfl
    · rfl
  · rfl

/-! ## A requestor that is not free, or has nothing to present -/

section
variable {s : State}

theorem presentPort_of_busy (h : s.ma.free .systemPort = false) : s.presentPort = s := by
  simp [State.presentPort, h]

theorem presentSr_of_busy (h : s.ma.free .settingsReader = false) : s.presentSr = s := by
  simp [State.presentSr, h]

theorem presentPort_idle (h : s.sp.phase ≠ .waiting false) : s.presentPort = s := by
  unfold State.presentPort
  split
  · split
    · rename_i k _; exact absurd k h
    · rfl
  · rfl

theorem presentPl_of_fetched (h : ∀ l, s.pl.load = some l → l.wants = false) : s.presentPl = s := by
  unfold State.presentPl
  split
  · split
    · rename_i l hl
      rw [h l hl]
      rfl
    · rfl
  · rfl

/-- Under the clear hold the Settings Reader presents nothing (R172). -/
theorem presentSr_held (h : s.ma.clearHold = true) : s.presentSr = s := by
  simp [State.presentSr, h]

theorem presentSr_rest {w : WordWrite} (hf : s.ma.free .settingsReader = true)
    (hc : s.ma.clearHold = false) (hr : s.sr.mirrorRest = some w) :
    s.presentSr = s.readerWrites w { s.sr with mirrorRest := none } := by
  simp [State.presentSr, hf, hc, hr]

theorem presentSr_report {w : WordWrite} {ws : List WordWrite} (hf : s.ma.free .settingsReader = true)
    (hc : s.ma.clearHold = false) (hr : s.sr.mirrorRest = none) (hp : s.sr.report = w :: ws) :
    s.presentSr = s.readerWrites w { s.sr with report := ws } := by
  simp [State.presentSr, hf, hc, hr, hp]

theorem presentSr_mark {f : MirrorField} {fs : List MirrorField} {w : Word} {rest : List Word}
    (hf : s.ma.free .settingsReader = true) (hc : s.ma.clearHold = false)
    (hr : s.sr.mirrorRest = none) (hp : s.sr.report = []) (hm : s.sr.marks = f :: fs)
    (hw : s.mirrorWords f = w :: rest) :
    s.presentSr = s.readerWrites (f.addr, w)
      { s.sr with marks := fs, mirrorRest := rest.head?.map (fun v => (f.addr + 1, v)) } := by
  cases rest with
  | nil => simp [State.presentSr, hf, hc, hr, hp, hm, hw]
  | cons v vs => simp [State.presentSr, hf, hc, hr, hp, hm, hw]

/-- With nothing to write the Settings Reader presents the next read of the look or the copy. -/
theorem presentSr_exam (hf : s.ma.free .settingsReader = true) (hc : s.ma.clearHold = false)
    (hr : s.sr.mirrorRest = none) (hp : s.sr.report = []) (hm : s.sr.marks = []) :
    s.presentSr = s.presentExam := by
  simp [State.presentSr, hf, hc, hr, hp, hm]

end

/-! ## Marks -/

/-- Where no item has changed no mark is set. -/
theorem markChanged_same {s b : State} (h : ∀ f, s.mirrorWords f = b.mirrorWords f)
    (hm : s.sr.marks = []) : s.markChanged b = s := by
  have hnone : marksWith s.sr.marks (fun f => s.mirrorWords f != b.mirrorWords f) = s.sr.marks := by
    simp only [h, bne_self_eq_false, hm]
    exact (rfl : marksWith [] (fun _ => false) = [])
  rw [State.markChanged, hnone]
  rfl

/-- Every field marked stays so. -/
theorem marksWith_mirrorFields (p : MirrorField → Bool) : marksWith mirrorFields p = mirrorFields := by
  refine List.filter_eq_self.2 fun f hf => ?_
  rw [List.contains_iff_mem.2 hf]
  rfl

theorem mem_marksWith {old : List MirrorField} {p : MirrorField → Bool} {f : MirrorField}
    (hf : f ∈ mirrorFields) : f ∈ marksWith old p ↔ f ∈ old ∨ p f = true := by
  simp [marksWith, hf]

/-- Every field of an item is one of the mirrored fields. -/
theorem mem_mirrorFields (f : MirrorField) : f ∈ mirrorFields := by
  cases f with
  | axis x i => cases x <;> cases i <;> decide
  | _ => decide

/-! ## The Record Writer at rest -/

/-- Work that has no word to present and none whose grant ends it. -/
def RwWork.rests : RwWork → Bool
  | .none | .judging _ _ _ true | .judged .. | .recorded _ => true
  | .judging _ _ _ false | .opening _ | .recording .. | .closing _ => false

theorem presentRw_rests {s : State} (h : s.rw.work.rests = true) : s.presentRw = s := by
  unfold State.presentRw
  split
  · split <;> first | rfl | (rename_i hw; rw [hw] at h; cases h)
  · rfl

theorem rwGranted_rests {s : State} (h : s.rw.work.rests = true) : s.rwGranted = s := by
  unfold State.rwGranted
  split <;> first | rfl | (rename_i hw; rw [hw] at h; cases h)

/-- With such work in hand the Record Writer does not move. -/
theorem settle_rw_rests {u : State} (b : State) (h : u.rw.work.rests = true) : (u.settle b).rw = u.rw := by
  have hp : (u.markChanged b).present.rw = u.rw := by
    rw [present_rw, presentRw_rests (s := u.markChanged b) h]; rfl
  have hg : (u.markChanged b).present.grant.rw = u.rw := by
    cases hc : (u.markChanged b).present.ma.choice with
    | none => rw [State.grant, hc]; exact hp
    | some x =>
      rw [grant_of_choice hc]
      have ha : (((u.markChanged b).present.withdraw x.1).access x.1 x.2).rw = u.rw := by
        unfold State.access
        split <;> exact hp
      split
      · rw [rwGranted_rests (by rw [ha]; exact h), ha]
      · exact ha
  rw [State.settle, present_rw, presentRw_rests (by rw [hg]; exact h), hg]

/-! ## Steps that grant nothing -/

theorem grant_none {s : State} (h : s.ma.choice = none) : s.grant = s := by rw [State.grant, h]

/-- While an access is in flight nothing is granted. -/
theorem grant_of_inflight {s : State} (h : s.ma.inflight.isSome = true) : s.grant = s :=
  grant_none (Arbiter.choice_none h)

end Sys2Proof.Machine

/-! PROOFS. Part control: the queue and reset, CONTROL and the registers, frame starts that begin no frame, the
watchdog, blanking: settles O1, O2, O3, O4, O6, O7, O9, O10, O11, O20, O21, O26, O35, O49. -/

namespace Sys2Proof.Machine

/-! ## Time without an edge (R180) -/

/-- Listening changes only what the link is reading and the dominant measure. -/
theorem listen_frame (s : State) (drv : List Bool) : s.listen drv = { s with lc := { s.lc with
    reading := (s.listen drv).lc.reading, dominant := (s.listen drv).lc.dominant } } := by
  unfold State.listen
  split
  · rfl
  · dsimp only
    split <;> rfl

/-- RESETn low, no time passes for the part (R181). -/
theorem pass_held {s : State} (d : Time) (h : s.clk.resetn = false) : s.pass d = s := by
  simp [State.pass, h]

/-- What a run of microseconds changes. -/
theorem pass_frame {s : State} (d : Time) (h : s.clk.resetn = true) : s.pass d = { s with
    clk := { tb := s.clk.tb + d, resetn := true }
    fi := { since := s.fi.since + d.toNat }
    wire := { s.wire with age := s.wire.age + d.toNat, own := (s.pass d).wire.own }
    lc := { s.lc with reading := (s.pass d).lc.reading, dominant := (s.pass d).lc.dominant } } := by
  simp only [State.pass, h, if_true]
  rw [listen_frame]
  rfl

/-- Settles O1, from what a run of microseconds changes. -/
theorem stepTakesTheFrontCommand : Obligations.StepTakesTheFrontCommand := by
  refine ⟨fun c rest s h => ?_, fun s h hr => ⟨s.pass 1, ?_, ?_, ?_, ?_, ?_, fun hoff => ?_⟩, fun s h hr => ?_⟩
  · rw [step, h]; rfl
  · rw [step, h]; rfl
  · conv_lhs => rw [pass_frame 1 hr]
    conv_rhs => rw [pass_frame 1 hr]
    rfl
  · rw [pass_frame 1 hr]
  · rw [pass_frame 1 hr]; rfl
  · conv_lhs => rw [pass_frame 1 hr]
  · exact elapse_off s [1] hoff
  · rw [step, h]
    exact congrArg _ (pass_held 1 hr)

/-! ## Reset (R171, R172, R181) -/

/-- Settles O2: every value of the reset state is written out in its definition. -/
theorem resetStateIsSound : Obligations.ResetStateIsSound := by
  have hmem : ∀ a, memRead State.reset.mem a = { data := 0, parity := true } := fun _ => rfl
  have haxes : State.reset.axesOk := fun x => by
    cases x <;> exact axisOk_off.2 rfl
  have hlink : State.reset.linkOk := ⟨by decide, fun _ => by decide⟩
  have hholds : State.reset.holdsOk := ⟨by decide, fun _ => by decide, fun _ => rfl⟩
  have hprofile : State.reset.profileOk := ⟨nofun, fun _ => rfl⟩
  exact ⟨rfl, rfl, rfl, rfl, rfl, rfl, rfl, rfl, rfl, rfl, rfl, rfl, rfl, rfl, rfl, rfl, rfl, rfl, rfl, rfl, rfl,
    rfl, rfl, rfl, rfl, rfl, rfl, hmem, rfl, rfl, rfl, hholds, hlink, hprofile, haxes, ⟨nofun, nofun⟩, nofun⟩

/-- Settles O3, by the definition of the hard reset. -/
theorem resetnAssertHoldsEveryBlock : Obligations.ResetnAssertHoldsEveryBlock := by
  intro dt s u hr
  refine ⟨u.hardReset, by rw [exec, execResetnAssert, hr]; rfl, rfl, elapse_pending s dt, elapse_mem s dt,
    rfl, rfl, rfl, rfl, rfl, rfl, rfl, rfl, rfl, rfl, ?_, rfl, rfl, rfl, rfl⟩
  rw [← elapse_sp s dt]
  rfl

/-- The state in which RESETn returns high on a part in hard reset, with a strobe on the port's inputs. -/
def State.releasedWith (s : State) (k : Option Strobe) : State :=
  { State.reset with
    pending := s.pending, wire := { Wire.reset with level := s.wire.level },
    sp := { SystemPort.reset with strobe := k, phase := if k.isSome then .waiting false else .idle } }

/-- No requestor but the port presents anything, and nothing is granted during the clear. -/
theorem settle_released (s : State) (k : Option Strobe) :
    (s.releasedWith k).settle s.hardReset = (s.releasedWith k).present := by
  have hsame : ∀ f, (s.releasedWith k).mirrorWords f = s.hardReset.mirrorWords f := fun f => by
    cases f with
    | axis x i => cases x <;> rfl
    | _ => rfl
  rw [State.settle, markChanged_same hsame rfl, grant_held (by cases k <;> rfl)]
  cases k <;> rfl

/-- Settles O4: the part in hard reset is the reset state with RESETn low, and RESETn high presents at most a held
strobe. -/
theorem resetnReleaseStartsClearing : Obligations.ResetnReleaseStartsClearing := by
  intro dt s hr hs
  have hu : s.elapse dt = (s.elapse dt).hardReset :=
    elapse_resetHeld s dt hs (by rw [elapse_resetn]; exact hr)
  have hevent : eventOf (.resetnRelease dt) (s.elapse dt) =
      some ((s.elapse dt).releasedWith s.sp.strobe) := by
    rw [← elapse_sp s dt]
    generalize s.elapse dt = u at hu ⊢
    rw [hu]
    rfl
  have hp : (s.elapse dt).pending = s.pending := elapse_pending s dt
  refine ⟨_, exec_of_some hevent, ?_⟩
  rw [show (Instr.resetnRelease dt).elapsed = dt from rfl]
  generalize s.elapse dt = u at hu hp ⊢
  have hsettle : (u.releasedWith s.sp.strobe).settle u = (u.releasedWith s.sp.strobe).present := by
    conv_lhs => rw [hu]
    rw [hu]
    exact settle_released u s.sp.strobe
  rw [hsettle]
  cases hk : s.sp.strobe with
  | none =>
    exact ⟨rfl, rfl, fun _ => rfl, rfl, rfl, rfl, rfl, rfl, fun _ => by rw [← hp]; rfl⟩
  | some k => exact ⟨rfl, rfl, fun _ => rfl, rfl, rfl, rfl, rfl, rfl, nofun⟩

/-! ## CONTROL (R183 to R185) -/

theorem controlCommand_run {v : Word} (h0 : v.getLsbD 0 = true) (h1 : v.getLsbD 1 = false)
    (h2 : v.getLsbD 2 = false) : controlCommand v = .run := by
  simp only [controlCommand, h0, h1, h2, Bool.false_eq_true, if_false, if_true]

theorem controlCommand_halt {v : Word} (h1 : v.getLsbD 1 = true) (h2 : v.getLsbD 2 = false) :
    controlCommand v = .halt := by
  simp only [controlCommand, h1, h2, Bool.false_eq_true, if_false, if_true]

theorem controlCommand_sreset {v : Word} (h2 : v.getLsbD 2 = true) : controlCommand v = .sreset := by
  simp only [controlCommand, h2, if_true]

/-- The port takes a register write. -/
theorem takesRegisterWrite_iff (s : State) : s.takesRegisterWrite = true ↔
    s.sp.strobe = none ∧ s.clk.resetn = true ∧ s.al.part ≠ .clearing := by
  simp [State.takesRegisterWrite, State.takesWrites]

theorem takesRegisterWrite_false {s : State}
    (h : s.al.part = .clearing ∨ s.clk.resetn = false ∨ s.sp.strobe ≠ none) :
    s.takesRegisterWrite = false := by
  rw [← Bool.not_eq_true, takesRegisterWrite_iff]
  rintro ⟨hk, hr, hp⟩
  rcases h with h | h | h
  · exact hp h
  · rw [hr] at h; cases h
  · exact h hk

theorem controlWrite_taken {s : State} (v : Word) (h : s.takesRegisterWrite = true) :
    s.controlWrite v = match controlCommand v with
      | .run => s.runCommand
      | .halt => s.haltCommand
      | .sreset => s.sresetCommand
      | .nothing => none := by
  cases hc : controlCommand v <;> simp [State.controlWrite, h, hc]

theorem controlWrite_untaken {s : State} (v : Word) (h : s.takesRegisterWrite = false) :
    s.controlWrite v = none := by
  simp [State.controlWrite, h]

theorem causesWritten_untaken {s : State} (v : Word) (h : s.takesRegisterWrite = false) :
    s.causesWritten v = none := by
  simp [State.causesWritten, h]

theorem enablesWritten_untaken {s : State} (v : Word) (h : s.takesRegisterWrite = false) :
    s.enablesWritten v = none := by
  simp [State.enablesWritten, h]

/-- Only the addresses 1, 3 and 4 take a write. -/
theorem registerWrite_other {s : State} {addr : BitVec 15} (v : Word) (h : addr ≠ 1 ∧ addr ≠ 3 ∧ addr ≠ 4) :
    s.registerWrite addr v = none := by
  rw [State.registerWrite, if_neg h.1, if_neg h.2.1, if_neg h.2.2]

theorem registerWrite_untaken {s : State} (addr : BitVec 15) (v : Word) (h : s.takesRegisterWrite = false) :
    s.registerWrite addr v = none := by
  simp [State.registerWrite, controlWrite_untaken v h, causesWritten_untaken v h, enablesWritten_untaken v h]

/-- Settles O6, from what a sent break does where no MARK is in flight or waits. -/
theorem runArmsThePart : Obligations.RunArmsThePart := by
  intro dt v s u hr hk hp ht hw h0 h1 h2
  have hbreak := sendBreak_spec (u.withAl { u.al with part := .armed })
  have hnone : ∀ axes, (u.withAl { u.al with part := .armed }).marksBroken axes = axes := fun axes => by
    simp [State.marksBroken, State.markBroken, ht, hw]
  rw [hnone] at hbreak
  refine exec_settled (c := .run dt v) ?_
  have htake : u.takesRegisterWrite = true := (takesRegisterWrite_iff u).2 ⟨hk, hr, by rw [hp]; nofun⟩
  change u.controlWrite v = _
  rw [controlWrite_taken v htake, controlCommand_run h0 h1 h2]
  simp only [State.runCommand, hp, if_true]
  rw [hbreak]
  simp [State.withRw, State.withAl, ht, hw, warnLevel, PartState.live, State.restartedAxes, State.tracks,
    State.mode, State.blankTime, State.someTrackLost, State.bits, bitTimes, micros, State.rate]
  rfl

/-- Settles O7, by what the command does. -/
theorem haltHaltsThePart : Obligations.HaltHaltsThePart := by
  intro dt v s u hr hk hp h1 h2
  refine exec_settled (c := .halt dt v) ?_
  have hlive : u.al.part.live = true := by rcases hp with hp | hp | hp <;> rw [hp] <;> rfl
  have htake : u.takesRegisterWrite = true :=
    (takesRegisterWrite_iff u).2 ⟨hk, hr, by rintro hc; rw [hc] at hlive; cases hlive⟩
  change u.controlWrite v = _
  rw [controlWrite_taken v htake, controlCommand_halt h1 h2]
  simp only [State.haltCommand, hlive, if_true]
  rw [cutFrame_frame]
  rfl

/-! ## CAUSES and ENABLES (R188, R189) -/

/-- Settles O9, by what the two writes do. -/
theorem causesAndEnablesWrites : Obligations.CausesAndEnablesWrites := by
  intro dt v s u
  refine ⟨fun hr hk hp => ?_, fun hp => ?_⟩
  · have htake : u.takesRegisterWrite = true := (takesRegisterWrite_iff u).2 ⟨hk, hr, hp⟩
    constructor
    · refine exec_settled (c := .causesWrite dt v) ?_
      change u.causesWritten v = _
      rw [State.causesWritten, if_pos htake]
      rfl
    · refine exec_settled (c := .enablesWrite dt v) ?_
      change u.enablesWritten v = _
      rw [State.enablesWritten, if_pos htake]
      rfl
  · have hno : u.takesRegisterWrite = false := takesRegisterWrite_false (.inl hp)
    exact ⟨exec_of_none (c := .causesWrite dt v) nofun (causesWritten_untaken v hno),
      exec_of_none (c := .enablesWrite dt v) nofun (enablesWritten_untaken v hno)⟩

/-! ## The register window (R179, R190, R191) -/

theorem mask_getLsbD (c d : Cause) : c.mask.getLsbD d.bit = (d == c) := by
  cases c <;> cases d <;> decide

/-- A raise sets its cause and no other. -/
theorem isSet_raise (al : Attention) (c d : Cause) :
    (al.raise c).isSet d = (al.isSet d || d == c) := by
  rw [Attention.isSet, attention_raise_causes, BitVec.getLsbD_or, mask_getLsbD]
  rfl

/-- Zeros above a word's bits widen it. -/
theorem zero_append_eq_setWidth {k n : Nat} (v : BitVec n) : (0 : BitVec k) ++ v = v.setWidth (k + n) := by
  apply BitVec.eq_of_toNat_eq
  rw [BitVec.toNat_append, BitVec.toNat_setWidth,
    Nat.mod_eq_of_lt (Nat.lt_of_lt_of_le v.isLt (Nat.pow_le_pow_right (by omega) (by omega)))]
  simp

/-- Settles O10: the window's value at each address, the bits of the causes, and the read of TB_LO. -/
theorem registerReadsAndTheTimebaseLatch : Obligations.RegisterReadsAndTheTimebaseLatch := by
  refine ⟨?_, rfl, fun s t h => ?_, fun s => ?_, fun al c d => ⟨?_, fun hd => ?_⟩, by decide⟩
  · intro dt s u hr hk
    have hevent : eventOf (.tbLoRead dt) u = some { u with al := { u.al with
        tbLatch := u.clk.tb.extractLsb' 16 16, tbLoRead := some (u.clk.tb.extractLsb' 0 16) } } := by
      change tbLoReadDone u = _
      rw [tbLoReadDone, hk, hr]
      rfl
    obtain ⟨t, ht, hs⟩ := exec_settled (c := .tbLoRead dt) (s := s) hevent
    refine ⟨t, ht, hs, ?_, rfl⟩
    change t.al.tbLatch = _
    rcases hs.records with ⟨-, hal⟩ | ⟨-, -, -, -, -, -, hal⟩ <;> rw [hal]
    rfl
  · rw [(sresetCommand_spec h).2]
    rfl
  · refine ⟨rfl, rfl, ?_, ?_, ?_, ?_, rfl, rfl, fun a ha => ?_⟩
    · change natWord s.al.part.code = _
      cases s.al.part <;> rfl
    · exact (zero_append_eq_setWidth _).symm
    · exact (zero_append_eq_setWidth _).symm
    · exact (zero_append_eq_setWidth _).symm
    · unfold State.registerRead
      split <;> first | omega | rfl
  · rw [isSet_raise]; simp
  · rw [isSet_raise, beq_false_of_ne hd, Bool.or_false]

/-- Settles O11: none of these writes is due. -/
theorem ignoredRegisterWrites : Obligations.IgnoredRegisterWrites := by
  intro dt addr v s u
  have hcontrol : u.controlWrite v = none → exec (.run dt v) s = .next u ∧ exec (.halt dt v) s = .next u ∧
      exec (.sreset dt v) s = .next u := fun h =>
    ⟨exec_of_none (c := .run dt v) nofun h, exec_of_none (c := .halt dt v) nofun h,
      exec_of_none (c := .sreset dt v) nofun h⟩
  refine ⟨fun h => ?_, rfl, fun h => hcontrol (controlWrite_untaken v (takesRegisterWrite_false h)),
    fun hp h1 h2 => ?_, fun hp h0 h1 h2 => ?_, fun hk => ?_⟩
  · refine exec_of_none (c := .registerWriteIgnored dt addr v) nofun ?_
    rcases h with h | h | h
    · exact registerWrite_other v h
    · exact registerWrite_untaken addr v (takesRegisterWrite_false (.inl h))
    · exact registerWrite_untaken addr v (takesRegisterWrite_false (.inr (.inl h)))
  · refine (hcontrol ?_).2.1
    rw [State.controlWrite, controlCommand_halt h1 h2]
    simp [State.haltCommand, hp, PartState.live]
  · refine (hcontrol ?_).1
    rw [State.controlWrite, controlCommand_run h0 h1 h2]
    have hne : u.al.part ≠ .halted := by rintro hc; rw [hc] at hp; simp at hp
    simp [State.runCommand, hne]
  · have hno : u.takesRegisterWrite = false := takesRegisterWrite_false (.inr (.inr hk))
    have hsome : u.sp.strobe.isNone = false := by rwa [Option.isNone_eq_false_iff, Option.isSome_iff_ne_none]
    exact ⟨exec_of_none (c := .registerWriteIgnored dt addr v) nofun (registerWrite_untaken addr v hno),
      exec_of_none (c := .causesWrite dt v) nofun (causesWritten_untaken v hno),
      exec_of_none (c := .enablesWrite dt v) nofun (enablesWritten_untaken v hno),
      exec_of_none (c := .tbLoRead dt) nofun (by change tbLoReadDone u = none; simp [tbLoReadDone, hsome])⟩

/-! ## Frame starts that begin no frame (R1, R187) -/

/-- An edge that a short or a lawful high level recognises has FRAME high for at most 1 µs, all of it after the edge
taken before (R1). -/
theorem frameRecognised_iff (s : State) (h : Time) :
    s.frameRecognised h = true ↔ h.toNat ≤ 1 ∧ h.toNat ≤ s.fi.since := by
  simp only [State.frameRecognised, Bool.or_eq_true, Bool.and_eq_true, decide_eq_true_eq]
  omega

/-- Settles O20: an edge that is not taken is not due, and with no settings only the look begins. -/
theorem frameStartsThatBeginNoFrame : Obligations.FrameStartsThatBeginNoFrame := by
  refine ⟨?_, fun s d => ?_⟩
  · intro dt h s u
    refine ⟨fun hp => ?_, fun hh => ?_, fun hr hp h1 h2 hc hf he => ?_⟩
    · refine exec_of_none (c := .frameStart dt h) nofun ?_
      change u.frameEdge h = none
      rcases hp with hp | hp <;> simp [State.frameEdge, hp, PartState.live]
    · refine exec_of_none (c := .frameStart dt h) nofun ?_
      have hno : u.frameRecognised h = false := by
        rw [← Bool.not_eq_true, frameRecognised_iff]
        omega
      change u.frameEdge h = none
      simp [State.frameEdge, hno]
    · refine exec_settled (c := .frameStart dt h) ?_
      change u.frameEdge h = _
      simp only [State.frameEdge, hr, hp, PartState.live, (frameRecognised_iff u h).2 ⟨h1, h2⟩, Bool.and_self,
        if_true]
      simp [State.adoptPending, State.frameOrNone, State.beginLook, State.withFi, State.withFt, State.withSr,
        hc, hf, he]
  · cases hr : s.clk.resetn with
    | false => rw [pass_held d hr]; rfl
    | true => rw [pass_frame d hr]; rfl

/-! ## Cuts and the watchdog (R14, R17) -/

/-- Settles O21, by the cases of a cut. -/
theorem cuttingAFrame : Obligations.CuttingAFrame := by
  intro s
  refine ⟨fun h => ?_, fun f hf hc he => ?_, fun f hf hc he hn => ?_, fun f hf hc he hn => ?_⟩
  · cases hf : s.ft.current with
    | none => simp [State.cutFrame, hf]
    | some f => simp [State.cutFrame, hf, h f hf]
  · simp [State.cutFrame, hf, hc, he, State.withFt]
  · simp [State.cutFrame, hf, hc, he, hn, State.withFt, sendNotice_spec]
  · have hsome : s.ft.cutting.isSome = true := by rwa [Option.isSome_iff_ne_none]
    simp [State.cutFrame, hf, hc, he, hsome, State.withFt, sendNotice_spec]

/-- Settles O26, by the cases of the watchdog. -/
theorem watchdogExpiryLosesTheFrame : Obligations.WatchdogExpiryLosesTheFrame := by
  intro dt s w u hw
  refine ⟨fun hp hd => ?_, fun h => ?_⟩
  · refine exec_settled (c := .frameWatchdogExpiry dt) ?_
    change watchdogExpires u = _
    simp only [watchdogExpires, hp, hw, hd, if_true]
    rfl
  · refine exec_of_none (c := .frameWatchdogExpiry dt) nofun ?_
    change watchdogExpires u = none
    unfold watchdogExpires
    split
    · rename_i hp hw'
      obtain rfl : w = _ := Option.some.inj (hw.symm.trans hw')
      rcases h with h | h
      · exact absurd hp h
      · simp [h]
    · rfl

/-! ## Blanking and disturbances (R31, R160) -/

/-- Settles O35, by the cases of the axis's blanking. -/
theorem blankingExpiryEndsBlanking : Obligations.BlankingExpiryEndsBlanking := by
  intro dt x s u
  refine ⟨fun e he hd => ?_, fun e he hd => ?_, fun n hn => ?_⟩
  · refine exec_settled (c := .blankingExpiry dt x) ?_
    change u.blankingEnds x = _
    simp only [State.blankingEnds, he, hd, if_true]
    rfl
  · refine exec_of_none (c := .blankingExpiry dt x) nofun ?_
    change u.blankingEnds x = none
    simp [State.blankingEnds, he, hd]
  · refine exec_of_none (c := .blankingExpiry dt x) nofun ?_
    change u.blankingEnds x = none
    simp [State.blankingEnds, hn]

theorem stored_fresh_good (w : Word) : (Stored.fresh w).good = true := by
  simp [Stored.fresh, Stored.good]

theorem stored_disturbed_bad (w : Word) : (Stored.disturbed w).good = false := by
  simp [Stored.disturbed, Stored.good]

/-- Settles O49, by the reads after a disturbance and after a write. -/
theorem wordDisturbedGoesBad : Obligations.WordDisturbedGoesBad := by
  intro dt addr data s u hc hm
  have hin : addr.toNat < Config.memoryWords := addr.isLt
  have hevent : eventOf (.wordDisturbed dt addr data) u =
      some { u with mem := memDisturb u.mem addr.toNat data } := by
    change u.disturbed addr data = _
    simp [State.disturbed, hc, State.withMem]
  obtain ⟨t, ht, hs⟩ := exec_settled (c := .wordDisturbed dt addr data) (s := s) hevent
  have hsame := memRead_memDisturb_same u.mem addr.toNat data hm hin
  refine ⟨t, ht, hs, by rw [hsame]; rfl, by rw [hsame]; exact stored_disturbed_bad data,
    fun a ha => memRead_memDisturb_other _ _ _ _ ha, fun w => ⟨?_, stored_fresh_good w⟩⟩
  rw [memRead_memWrite_same _ _ _ (memWf_memDisturb _ _ _ hm) hin]
  rfl

end Sys2Proof.Machine

/-! PROOFS. The end of a step, requestor by requestor, and the port's accesses: settles O5, O8, O12, O13. -/

namespace Sys2Proof.Machine

/-! ## Each requestor presents by itself -/

/-- What is mirrored does not hang on the requestors' own work. -/
theorem mirrorWords_presentRw (s : State) (f : MirrorField) :
    s.presentRw.presentPort.mirrorWords f = s.mirrorWords f := by
  rw [presentPort_frame, presentRw_frame]
  cases f <;> rfl

theorem present_writer (s : State) :
    s.present.rw = s.presentRw.rw ∧ s.present.ma.reqRw = s.presentRw.ma.reqRw := by
  refine ⟨present_rw s, ?_⟩
  rw [State.present, presentPl_frame, presentSr_frame, presentPort_frame]

theorem presentPort_congr {s t : State} (hsp : t.sp = s.sp) (hf : t.ma.free .systemPort = s.ma.free .systemPort)
    (hq : t.ma.reqPort = s.ma.reqPort) :
    t.presentPort.sp = s.presentPort.sp ∧ t.presentPort.ma.reqPort = s.presentPort.ma.reqPort := by
  unfold State.presentPort
  rw [hf, hsp]
  split
  · split
    · exact ⟨by rw [State.withSp_sp, State.withSp_sp], rfl⟩
    · exact ⟨hsp, hq⟩
  · exact ⟨hsp, hq⟩

theorem present_port (s : State) :
    s.present.sp = s.presentPort.sp ∧ s.present.ma.reqPort = s.presentPort.ma.reqPort := by
  have hrw : s.presentRw.sp = s.sp ∧ s.presentRw.ma.free .systemPort = s.ma.free .systemPort ∧
      s.presentRw.ma.reqPort = s.ma.reqPort := by rw [presentRw_frame]; exact ⟨rfl, rfl, rfl⟩
  obtain ⟨hsp, hq⟩ := presentPort_congr hrw.1 hrw.2.1 hrw.2.2
  rw [State.present, presentPl_frame, presentSr_frame]
  exact ⟨hsp, hq⟩

/-- The Settings Reader presents by its own state, its request and the items mirrored. -/
theorem presentSr_congr {s t : State} (hsr : t.sr = s.sr)
    (hf : t.ma.free .settingsReader = s.ma.free .settingsReader) (hc : t.ma.clearHold = s.ma.clearHold)
    (hq : t.ma.reqSr = s.ma.reqSr) (hm : ∀ f, t.mirrorWords f = s.mirrorWords f) :
    t.presentSr.sr = s.presentSr.sr ∧ t.presentSr.ma.reqSr = s.presentSr.ma.reqSr := by
  have hexam : t.presentExam.sr = s.presentExam.sr ∧ t.presentExam.ma.reqSr = s.presentExam.ma.reqSr := by
    unfold State.presentExam State.readerReads
    rw [hsr]
    split
    · exact ⟨rfl, rfl⟩
    · exact ⟨rfl, rfl⟩
    · split
      · exact ⟨rfl, rfl⟩
      · exact ⟨hsr, hq⟩
    · exact ⟨hsr, hq⟩
  unfold State.presentSr State.readerWrites
  simp only [hsr, hf, hc, hm]
  split
  · split
    · exact ⟨rfl, rfl⟩
    · exact ⟨rfl, rfl⟩
    · split
      · exact ⟨rfl, rfl⟩
      · exact ⟨rfl, rfl⟩
      · exact ⟨rfl, hq⟩
    · exact hexam
  · exact ⟨hsr, hq⟩

theorem present_reader (s : State) :
    s.present.sr = s.presentSr.sr ∧ s.present.ma.reqSr = s.presentSr.ma.reqSr := by
  have hrw : s.presentRw.presentPort.sr = s.sr ∧
      s.presentRw.presentPort.ma.free .settingsReader = s.ma.free .settingsReader ∧
      s.presentRw.presentPort.ma.clearHold = s.ma.clearHold ∧
      s.presentRw.presentPort.ma.reqSr = s.ma.reqSr := by
    rw [presentPort_frame, presentRw_frame]; exact ⟨rfl, rfl, rfl, rfl⟩
  obtain ⟨hsr, hf, hc, hq⟩ := hrw
  obtain ⟨h1, h2⟩ := presentSr_congr hsr hf hc hq (mirrorWords_presentRw s)
  rw [State.present, presentPl_frame]
  exact ⟨h1, h2⟩

theorem present_loader (s : State) :
    s.present.pl = s.presentPl.pl ∧ s.present.ma.reqPl = s.presentPl.ma.reqPl := by
  have hrw : s.presentRw.presentPort.presentSr.pl = s.pl ∧
      s.presentRw.presentPort.presentSr.ma.free .profileLoader = s.ma.free .profileLoader ∧
      s.presentRw.presentPort.presentSr.ma.reqPl = s.ma.reqPl := by
    rw [presentSr_frame, presentPort_frame, presentRw_frame]; exact ⟨rfl, rfl, rfl⟩
  obtain ⟨hpl, hf, hq⟩ := hrw
  rw [State.present]
  unfold State.presentPl
  rw [hf, hpl]
  split
  · split
    · split
      · exact ⟨rfl, rfl⟩
      · exact ⟨hpl, hq⟩
    · exact ⟨hpl, hq⟩
  · exact ⟨hpl, hq⟩

/-! ## What a grant leaves to each requestor -/

/-- The pending set and the Settings Reader, the port and the loader after a grant. The Record Writer's bookkeeping
marks NEXT_SLOT at the close of a slot. -/
theorem grant_sp (s : State) : s.grant.sp = s.sp := by
  rcases grant_spec s with h | ⟨who, r, acc, ma, -, -, -, -, -, -, -, h⟩
  · rw [h]
  · rcases h with h | ⟨-, h⟩
    · rw [h]; rfl
    · rw [h]
      rcases rwGranted_spec ((s.withMem _).withMa ma) with ⟨w, h⟩ | ⟨o, -, ho, h⟩
      · rw [h]; rfl
      · rw [h, slotClosed_some _ o ho]; rfl

theorem grant_reqPort {s : State} (h : s.ma.reqPort = none) : s.grant.ma.reqPort = none := by
  cases hc : s.ma.choice with
  | none => rw [grant_none hc]; exact h
  | some x =>
    have ha : ((s.withdraw x.1).access x.1 x.2).ma.reqPort = none := by
      unfold State.access State.withdraw
      obtain ⟨who, r⟩ := x
      cases who <;> dsimp only <;> split <;> first | exact h | rfl
    rw [grant_of_choice hc]
    split
    · rw [(rwGranted_memory _).2.1]; exact ha
    · exact ha

/-! ## The port at the end of a step -/

/-- A port that has nothing to present stays as it is. -/
theorem settle_port_idle {u : State} (b : State) (h : u.sp.phase ≠ .waiting false) :
    (u.settle b).sp = u.sp ∧ (u.ma.reqPort = none → (u.settle b).ma.reqPort = none) := by
  have hp : (u.markChanged b).present.sp = u.sp ∧ (u.markChanged b).present.ma.reqPort = u.ma.reqPort := by
    have hidle := presentPort_idle (s := u.markChanged b) h
    exact ⟨(present_port _).1.trans (by rw [hidle]; rfl), (present_port _).2.trans (by rw [hidle]; rfl)⟩
  have hg : (u.markChanged b).present.grant.sp = u.sp := (grant_sp _).trans hp.1
  have hidle : (u.markChanged b).present.grant.presentPort = (u.markChanged b).present.grant :=
    presentPort_idle (by rw [hg]; exact h)
  refine ⟨?_, fun hn => ?_⟩
  · rw [State.settle, (present_port _).1, hidle, hg]
  · rw [State.settle, (present_port _).2, hidle]
    exact grant_reqPort (hp.2.trans hn)

/-- A strobe that begins on a free port is presented in the same step. -/
theorem present_port_waits {s : State} {k : Strobe} (hf : s.ma.free .systemPort = true)
    (hp : s.sp.phase = .waiting false) (hk : s.sp.strobe = some k) :
    s.present.sp = { s.sp with phase := .waiting true } ∧
      s.present.ma.reqPort = some { addr := k.addr, write := k.write } := by
  have h : s.presentPort = (s.withMa { s.ma with reqPort := some { addr := k.addr, write := k.write } }).withSp
      { s.sp with phase := .waiting true } := by
    simp [State.presentPort, hf, hp, hk]
  rw [(present_port s).1, (present_port s).2, h]
  exact ⟨rfl, rfl⟩

/-- Presenting twice presents nothing new for the port. -/
theorem present_port_twice {s : State} (h : s.sp.phase = .waiting true) : s.present.sp = s.sp := by
  rw [(present_port s).1, presentPort_idle (by rw [h]; nofun)]

/-! ## The port's accesses (R167 to R169) -/

/-- The state once the port has taken a strobe. -/
def State.strobed (s : State) (k : Strobe) : State :=
  { s with sp := { strobe := some k, phase := .waiting false, dataOut := none } }

theorem strobeBegins_some {s : State} {k : Strobe} (hr : s.clk.resetn = true)
    (hsp : s.sp = { strobe := none, phase := .idle, dataOut := none }) :
    s.strobeBegins k = some (s.strobed k) := by
  rw [State.strobeBegins, hr, hsp]
  rfl

/-- The port's request is next after the Record Writer's, unless the port is held (R163). -/
theorem choice_port {ma : Arbiter} {r : Request} (hi : ma.inflight = none) (hc : ma.clearHold = false)
    (hp : ma.portHold = false) (hw : ma.reqRw = none) (hq : ma.reqPort = some r) :
    ma.choice = some (.systemPort, r) := by
  simp [Arbiter.choice, hi, hc, hp, hw, hq]

/-- While the Record Writer rests an idle arbiter grants the port's request in the step. -/
theorem settle_port_granted {e : State} (b : State) {r : Request} (hi : e.ma.inflight = none)
    (hc : e.ma.clearHold = false) (hh : e.ma.portHold = false) (hrw : e.ma.reqRw = none)
    (hw : e.rw.work.rests = true) (hq : (e.markChanged b).present.ma.reqPort = some r) :
    (r.write = none → (e.settle b).ma.inflight =
      some { who := .systemPort, addr := r.addr, read := some (memFetch e.mem e.clk.tb r.addr) }) ∧
    (∀ w, r.write = some w → (e.settle b).ma.inflight =
        some { who := .systemPort, addr := r.addr, read := none } ∧
      (e.settle b).mem = memWrite e.mem r.addr w) := by
  have hpres := (markChanged_presented e b).trans (present_presented _)
  have hwrite : (e.markChanged b).present.ma.reqRw = none := by
    rw [(present_writer _).2, presentRw_rests (s := e.markChanged b) hw]
    exact hrw
  have hchoice : (e.markChanged b).present.ma.choice = some (.systemPort, r) :=
    choice_port (hpres.inflight.trans hi) (hpres.clearHold.trans hc) (hpres.portHold.trans hh) hwrite hq
  obtain ⟨acc, hacc, hwho, haddr, hread, hwr⟩ := grant_access hchoice
  have hlast := present_presented (e.markChanged b).present.grant
  have hmem : (e.markChanged b).present.mem = e.mem := hpres.mem
  have htb : (e.markChanged b).present.clk.tb = e.clk.tb := congrArg Clock.tb hpres.clk
  rw [State.settle, hlast.inflight, hlast.mem, hacc]
  obtain ⟨who, addr, read⟩ := acc
  subst hwho haddr
  refine ⟨fun hn => ?_, fun w hsome => ?_⟩
  · rw [← hmem, ← htb, ← (hread hn).2]
  · rw [← hmem, (hwr w hsome).1]
    exact ⟨by rw [← (hwr w hsome).2], rfl⟩

/-- The port's request presented, and on an idle arbiter its access granted. -/
theorem strobed_settles {u : State} (b : State) {k : Strobe} (hs : u.ma.serves .systemPort = false)
    (hq : u.ma.reqPort = none) :
    ((u.strobed k).settle b).sp.phase = .waiting true ∧
    (u.ma.inflight = none → u.ma.clearHold = false → u.ma.portHold = false → u.ma.reqRw = none →
      u.rw.work = .none →
      (k.write = none → ((u.strobed k).settle b).ma.inflight =
        some { who := .systemPort, addr := k.addr, read := some (memFetch u.mem u.clk.tb k.addr) }) ∧
      (∀ w, k.write = some w → ((u.strobed k).settle b).ma.inflight =
        some { who := .systemPort, addr := k.addr, read := none } ∧
        ((u.strobed k).settle b).mem = memWrite u.mem k.addr w)) := by
  have hf : ((u.strobed k).markChanged b).ma.free .systemPort = true := by
    change u.ma.free .systemPort = true
    simp [Arbiter.free, hs, hq]
  obtain ⟨hsp, hreq⟩ := present_port_waits hf rfl rfl
  have hgsp : (((u.strobed k).markChanged b).present.grant).sp.phase = .waiting true := by
    rw [grant_sp, hsp]
  exact ⟨by rw [State.settle, present_port_twice hgsp, hgsp], fun hi hc hh hrw hw =>
    settle_port_granted b (e := u.strobed k) hi hc hh hrw
      (by change u.rw.work.rests = true; rw [hw]; rfl) hreq⟩

/-- Settles O12, by the port's request and its grant. -/
theorem portAccessBegins : Obligations.PortAccessBegins := by
  intro dt addr data s u hr hsp hs hq
  have hin : addr.toNat < Config.memoryWords := addr.isLt
  constructor
  · obtain ⟨hphase, hgrant⟩ := strobed_settles (k := { addr := addr.toNat, write := none }) u hs hq
    refine ⟨(u.strobed { addr := addr.toNat, write := none }).settle u,
      exec_of_some (c := .portMemoryRead dt addr) (strobeBegins_some hr hsp), ?_,
      settle_settled _ _, hphase, fun hi hc hh hrw hw => ?_⟩
    · rw [State.waitLow, hphase]
    · rw [(hgrant hi hc hh hrw hw).1 rfl, memFetch, if_pos hin]
  · obtain ⟨hphase, hgrant⟩ := strobed_settles (k := { addr := addr.toNat, write := some data }) u hs hq
    refine ⟨(u.strobed { addr := addr.toNat, write := some data }).settle u,
      exec_of_some (c := .portMemoryWrite dt addr data) (strobeBegins_some hr hsp), ?_,
      settle_settled _ _, hphase, fun hi hc hh hrw hw => (hgrant hi hc hh hrw hw).2 data rfl⟩
    rw [State.waitLow, hphase]

/-! ## Completions of the port's accesses (R162, R168) -/

/-- A completed access, its requestor aside: nothing is in flight, and a parity failure has latched its address. -/
def State.completed (s : State) (a : Access) : State :=
  { s with
    ma := { s.ma with inflight := none }
    al := if a.failed then { s.al with faultAddr := BitVec.ofNat 15 a.addr } else s.al }

theorem accessCompletes_some {s : State} {a : Access} (h : s.ma.inflight = some a) :
    accessCompletes s = some ((s.completed a).accessHeard a) := by
  simp only [accessCompletes, h]
  unfold State.completed
  split <;> rfl

/-- Settles O13, from what the port does with a completion and at the end of a strobe. -/
theorem portAccessCompletesAndEnds : Obligations.PortAccessCompletesAndEnds := by
  refine ⟨?_, ?_⟩
  · intro dt s addr found u hi bad al
    have hal : ((u.completed { who := .systemPort, addr := addr, read := found }).raiseIf bad .parity) =
        { u with ma := { u.ma with inflight := none }, al := al } := by
      cases hbad : bad with
      | false =>
        have hf : Access.failed { who := .systemPort, addr := addr, read := found } = false := hbad
        simp [State.completed, State.raiseIf, hf, al, hbad]
      | true =>
        have hf : Access.failed { who := .systemPort, addr := addr, read := found } = true := hbad
        simp [State.completed, State.raiseIf, hf, al, hbad, State.raise, State.withAl]
    have hevent : ∀ e, State.portHears (u.completed { who := .systemPort, addr := addr, read := found })
        { who := .systemPort, addr := addr, read := found } = e →
        exec (.memoryAccessComplete dt) s = .next (e.settle u) := fun e he => by
      refine exec_of_some (c := .memoryAccessComplete dt) ?_
      rw [← he]
      exact accessCompletes_some hi
    have hheard : State.portHears (u.completed { who := .systemPort, addr := addr, read := found })
        { who := .systemPort, addr := addr, read := found } =
        match u.sp.phase with
        | .waiting true => { u with
            ma := { u.ma with inflight := none }, al := al,
            sp := { u.sp with phase := .done, dataOut := found.map Stored.data } }
        | .idle | .waiting false | .done => { u with ma := { u.ma with inflight := none }, al := al } := by
      have hfail : Access.failed { who := .systemPort, addr := addr, read := found } = bad := rfl
      unfold State.portHears
      rw [hfail, hal]
      dsimp only
      split <;> simp_all [State.withSp]
    refine ⟨fun hp => ?_, fun hp => ?_⟩
    · rw [hp] at hheard
      obtain ⟨hsp, -⟩ := settle_port_idle (u := { u with
        ma := { u.ma with inflight := none }, al := al,
        sp := { u.sp with phase := .done, dataOut := found.map Stored.data } }) u nofun
      refine ⟨_, hevent _ hheard, rfl, by rw [hsp], by rw [hsp], ?_⟩
      rw [State.waitLow, hsp]
    · have hkeep : ∀ e : State, e = { u with ma := { u.ma with inflight := none }, al := al } →
          State.portHears (u.completed { who := .systemPort, addr := addr, read := found })
            { who := .systemPort, addr := addr, read := found } = e := by
        rintro e rfl
        rw [hheard]
        split
        · rename_i hw; exact absurd hw hp
        · rfl
        · rfl
        · rfl
      have hs := settle_settled { u with ma := { u.ma with inflight := none }, al := al } u
      refine ⟨_, hevent _ (hkeep _ rfl), rfl, by rw [hs.sp], fun hidle => ?_⟩
      rw [(settle_port_idle (u := { u with ma := { u.ma with inflight := none }, al := al }) u
        (by change u.sp.phase ≠ _; rw [hidle]; nofun)).1]
      exact hidle
  · intro dt s u hk
    have hsome : u.sp.strobe.isSome = true := by rwa [Option.isSome_iff_ne_none]
    let e : State := { u with
      sp := { strobe := none, phase := .idle, dataOut := none }, ma := { u.ma with reqPort := none } }
    obtain ⟨hsp, hreq⟩ := settle_port_idle (u := e) u nofun
    refine ⟨e.settle u, exec_of_some (c := .portStrobeEnd dt) ?_, rfl, hsp, ?_, hreq rfl⟩
    · change strobeEnds u = _
      rw [strobeEnds, if_pos hsome]
      rfl
    · rw [State.waitLow, hsp]

/-! ## Words that wait with the Settings Reader -/

/-- While words of a report wait no marked field goes out. -/
theorem presentSr_keeps_marks {s : State} {w : WordWrite} {ws : List WordWrite} (hr : s.sr.mirrorRest = none)
    (hp : s.sr.report = w :: ws) :
    s.presentSr.sr.marks = s.sr.marks ∧ s.presentSr.sr.mirrorRest = none ∧
      (s.presentSr.sr.report = w :: ws ∨ s.presentSr.sr.report = ws) := by
  by_cases hf : s.ma.free .settingsReader = true
  · by_cases hc : s.ma.clearHold = false
    · rw [presentSr_report hf hc hr hp]
      exact ⟨rfl, hr, .inr rfl⟩
    · rw [presentSr_held (by simpa using hc)]
      exact ⟨rfl, hr, .inl hp⟩
  · rw [presentSr_of_busy (by simpa using hf)]
    exact ⟨rfl, hr, .inl hp⟩

/-- While the Record Writer rests a grant leaves the Settings Reader and the Record Writer alone. -/
theorem grant_readers {s : State} (h : s.rw.work.rests = true) :
    s.grant.sr = s.sr ∧ s.grant.rw = s.rw ∧ (s.ma.reqRw = none → s.grant.ma.reqRw = none) ∧
      (s.ma.reqPl = none → s.grant.ma.reqPl = none) ∧ s.grant.pl = s.pl := by
  cases hc : s.ma.choice with
  | none => rw [grant_none hc]; exact ⟨rfl, rfl, id, id, rfl⟩
  | some x =>
    obtain ⟨who, r⟩ := x
    have hacc : ∀ t : State, t.sr = s.sr → t.rw = s.rw → t.pl = s.pl →
        (t.access who r).sr = s.sr ∧ (t.access who r).rw = s.rw ∧ (t.access who r).pl = s.pl ∧
        (t.access who r).ma.reqRw = t.ma.reqRw ∧ (t.access who r).ma.reqPl = t.ma.reqPl := by
      intro t h1 h2 h3
      unfold State.access
      split <;> exact ⟨h1, h2, h3, rfl, rfl⟩
    obtain ⟨hsr, hrw, hpl, hq, hl⟩ := hacc (s.withdraw who) rfl rfl rfl
    have hg : s.grant = (s.withdraw who).access who r := by
      rw [grant_of_choice hc]
      split
      · exact rwGranted_rests (by rw [hrw]; exact h)
      · rfl
    rw [hg, hsr, hrw, hpl, hq, hl]
    refine ⟨rfl, rfl, fun hn => ?_, fun hn => ?_, rfl⟩
    · cases who <;> first | rfl | exact hn
    · cases who <;> first | rfl | exact hn

/-- The soft-reset state of a part. -/
def State.softReset (s : State) : State :=
  { s with
    ft := s.ft.softReset, be := BandEngine.reset, axes := Axes.reset, lc := s.lc.softReset,
    pl := s.pl.cleared, sr := SettingsReader.softReset, rw := RecordWriter.cleared,
    ma := s.ma.softReset, al := s.al.softReset }

/-- Settles O8: after a soft reset the report words go out first, so that every mark still waits, and neither the Record
Writer nor the loader has anything to present. -/
theorem sresetSoftResetsEveryBlock : Obligations.SresetSoftResetsEveryBlock := by
  intro dt v s u hr hk hp h2 e
  have htake : u.takesRegisterWrite = true := (takesRegisterWrite_iff u).2 ⟨hk, hr, hp⟩
  have hmark : (e.markChanged u).sr = e.sr :=
    congrArg (fun m => ({ e.sr with marks := m } : SettingsReader)) (marksWith_mirrorFields _)
  have hwork : (e.markChanged u).present.rw.work = .none := by
    rw [(present_writer _).1, presentRw_idle (e.markChanged u) rfl]
    rfl
  obtain ⟨hsr, hrw, hreqRw, hreqPl, hpl⟩ := grant_readers (by rw [hwork]; rfl)
  have hload : ∀ t : State, t.pl.load = none → t.presentPl = t := fun t h =>
    presentPl_of_fetched fun l hl => by rw [h] at hl; cases hl
  have hplNone : (e.markChanged u).present.pl.load = none := by
    rw [(present_loader _).1, hload (e.markChanged u) rfl]
    rfl
  refine ⟨exec_of_some (c := .sreset dt v) ?_, ?_, ?_, ?_, ?_⟩
  · change u.controlWrite v = _
    rw [controlWrite_taken v htake, controlCommand_sreset h2]
    dsimp only
    rw [State.sresetCommand, if_neg hp]
    rfl
  · rw [settle_rw_rests u (u := e) rfl]
    rfl
  · obtain ⟨hm, hrest, hrep⟩ := presentSr_keeps_marks (s := e.markChanged u) (by rw [hmark]; rfl)
      (by rw [hmark])
    rw [← (present_reader _).1, ← hsr] at hm hrest hrep
    have hagain : ∀ ws, (e.markChanged u).present.grant.sr.report = ws → ws ≠ [] →
        (e.settle u).sr.marks = mirrorFields := by
      intro ws hws hne
      obtain ⟨w, ws, rfl⟩ := List.exists_cons_of_ne_nil hne
      rw [State.settle, (present_reader _).1, (presentSr_keeps_marks hrest hws).1, hm, hmark]
    rcases hrep with hrep | hrep
    · exact hagain _ hrep nofun
    · exact hagain _ hrep nofun
  · rw [State.settle, (present_writer _).2, presentRw_idle _ (by rw [hrw]; exact hwork)]
    refine hreqRw ?_
    rw [(present_writer _).2, presentRw_idle (e.markChanged u) rfl]
    rfl
  · rw [State.settle, (present_loader _).2, hload _ (by rw [hpl]; exact hplNone)]
    refine hreqPl ?_
    rw [(present_loader _).2, hload (e.markChanged u) rfl]
    rfl

/-! ## CLEARING (R172, R182) -/

/-- A requestor with an access in flight presents nothing. -/
theorem Arbiter.busy_of_inflight {ma : Arbiter} {acc : Access} (h : ma.inflight = some acc) :
    ma.free acc.who = false := by
  simp [Arbiter.free, Arbiter.serves, h]

/-- Settles O5: the write of PART_STATE is the first presented and the only one the arbiter can choose, and CLEARING
ends exactly when what it waits for is done. -/
theorem clearingWritesTheMirrorAndEnds : Obligations.ClearingWritesTheMirrorAndEnds := by
  refine ⟨?_, ?_⟩
  · intro dt s u hr hma hport hwork hrep hrest hload
    let e : State := { u with ma := { u.ma with clearHold := false }, sr := { u.sr with marks := mirrorFields } }
    have hclear : u.ma.clearHold = true := by rw [hma]; rfl
    have hidle : u.ma.inflight = none := by rw [hma]; rfl
    have hmark : (e.markChanged u).sr = e.sr :=
      congrArg (fun m => ({ e.sr with marks := m } : SettingsReader)) (marksWith_mirrorFields _)
    have hevent : eventOf (.memoryClearDone dt) u = some e := by
      change memoryCleared u = _
      rw [memoryCleared, hr, hclear]
      rfl
    have hfree : (e.markChanged u).ma.free .settingsReader = true := by
      change ({ u.ma with clearHold := false } : Arbiter).free .settingsReader = true
      rw [hma]
      rfl
    have hsr := presentSr_mark (s := e.markChanged u) (f := .partState) (fs := mirrorFields.tail) hfree rfl
      (by rw [hmark]; exact hrest) (by rw [hmark]; exact hrep) (by rw [hmark]; rfl) rfl
    have hpres := (markChanged_presented e u).trans (present_presented _)
    have hwork' : (e.markChanged u).present.rw.work = .none := by
      rw [(present_writer _).1, presentRw_idle (e.markChanged u) hwork]
      exact hwork
    have hreq : (e.markChanged u).present.ma.reqRw = none := by
      rw [(present_writer _).2, presentRw_idle (e.markChanged u) hwork]
      change u.ma.reqRw = none
      rw [hma]
      rfl
    have hchoice : (e.markChanged u).present.ma.choice = some (.settingsReader,
        { addr := 0x0010, write := some (natWord u.al.part.code) }) := by
      have hq := (present_reader (e.markChanged u)).2
      rw [hsr] at hq
      have hin : (e.markChanged u).present.ma.inflight = none := hpres.inflight.trans hidle
      have hcl : (e.markChanged u).present.ma.clearHold = false := hpres.clearHold
      have hpo : (e.markChanged u).present.ma.portHold = true := hpres.portHold.trans hport
      simp only [Arbiter.choice, hin, hcl, hpo, hreq, hq]
      rfl
    obtain ⟨acc, hacc, hwho, haddr, -, hwrite⟩ := grant_access hchoice
    obtain ⟨hmem, hread⟩ := hwrite _ rfl
    have hlast := present_presented (e.markChanged u).present.grant
    obtain ⟨who, addr, read⟩ := acc
    cases hwho
    cases haddr
    cases hread
    refine ⟨_, exec_of_some (s := s) hevent, settle_settled _ _, ?_, hlast.inflight.trans hacc, ?_⟩
    · change ((e.markChanged u).present.grant.present).sr.marks = _
      rw [(present_reader _).1, presentSr_of_busy (Arbiter.busy_of_inflight hacc), (grant_readers (by rw [hwork']; rfl)).1,
        (present_reader _).1, hsr]
      rfl
    · exact hlast.mem.trans (hmem.trans (by rw [hpres.mem]; rfl))
  · intro dt s u
    refine ⟨fun hr hp hc hm hmarks hrest hrep hq => ?_, fun h => ?_⟩
    · refine exec_settled (c := .clearingEnd dt) ?_
      have hdone : u.clearingDone = true := by
        simp [State.clearingDone, hr, hp, hc, hmarks, hrest, hrep, hq, Option.isSome_iff_ne_none, hm]
      change clearingEnded u = _
      rw [clearingEnded, if_pos hdone]
      rfl
    · refine exec_of_none (c := .clearingEnd dt) nofun ?_
      have hno : u.clearingDone = false := by
        rw [← Bool.not_eq_true]
        intro hd
        simp only [State.clearingDone, Bool.and_eq_true, Bool.not_eq_true', Option.isSome_iff_ne_none,
          List.isEmpty_iff, Option.isNone_iff_eq_none] at hd
        obtain ⟨⟨⟨⟨⟨⟨⟨-, -⟩, hc⟩, hm⟩, hmarks⟩, -⟩, -⟩, hq⟩ := hd
        rcases h with h | h | h | h
        · rw [hc] at h; cases h
        · exact hm h
        · exact h hmarks
        · exact h hq
      change clearingEnded u = none
      simp [clearingEnded, hno]

end Sys2Proof.Machine

/-! PROOFS. Accesses as their requestors hear them, the mirror, the last grants of the Record Writer, the Profile
Loader's decision and fetches: settles O15, O16, O17, O29, O33. -/

namespace Sys2Proof.Machine

/-! ## A completion and its requestor (R162, R163) -/

section
variable {s : State} {dt : Span} {a : Access}

theorem access_done {e : State} (h : (s.elapse dt).ma.inflight = some a)
    (he : ((s.elapse dt).completed a).accessHeard a = e) :
    exec (.memoryAccessComplete dt) s = .next (e.settle (s.elapse dt)) :=
  exec_of_some (c := .memoryAccessComplete dt) ((accessCompletes_some h).trans (congrArg some he))

theorem access_settled {e : State} (h : (s.elapse dt).ma.inflight = some a)
    (he : ((s.elapse dt).completed a).accessHeard a = e) :
    ∃ t, exec (.memoryAccessComplete dt) s = .next t ∧ Settled e t :=
  ⟨_, access_done h he, settle_settled _ _⟩

end

theorem completed_read (s : State) (who : Requestor) (addr : Nat) (v : Stored) :
    s.completed { who := who, addr := addr, read := some v } = { s with
      ma := { s.ma with inflight := none }
      al := if v.good then s.al else { s.al with faultAddr := BitVec.ofNat 15 addr } } := by
  cases hv : v.good <;> simp [State.completed, Access.failed, hv]

theorem completed_write (s : State) (who : Requestor) (addr : Nat) :
    s.completed { who := who, addr := addr, read := none } = { s with ma := { s.ma with inflight := none } } := by
  simp [State.completed, Access.failed]

/-! ## The look and the copy (R125, R127) -/

theorem selectorRead_bad {s : State} {v : Stored} (n : BitVec 32) (hv : v.good = false) :
    s.selectorRead v n = { s with al := s.al.raise .parity, sr := { s.sr with exam := .none } } := by
  rw [State.selectorRead, if_pos (by rw [hv]; rfl)]
  rfl

theorem selectorRead_zero {s : State} {v : Stored} (n : BitVec 32) (hv : v.good = true) (h0 : v.data = 0) :
    s.selectorRead v n = { s with sr := { s.sr with exam := .none } } := by
  rw [State.selectorRead, if_neg (by rw [hv]; nofun), if_pos h0]
  rfl

theorem selectorRead_page {s : State} {v : Stored} (n : BitVec 32) (hv : v.good = true)
    (h : v.data = 1 ∨ v.data = 2) :
    s.selectorRead v n = { s with sr := { s.sr with exam := .readSeq v.data n } } := by
  have h0 : v.data ≠ 0 := by rcases h with h | h <;> rw [h] <;> decide
  rw [State.selectorRead, if_neg (by rw [hv]; nofun), if_neg h0, if_pos h]
  rfl

theorem selectorRead_other {s : State} {v : Stored} (n : BitVec 32) (hv : v.good = true) (h0 : v.data ≠ 0)
    (h1 : v.data ≠ 1) (h2 : v.data ≠ 2) : s.selectorRead v n = s.judgePair v.data 0 false n := by
  rw [State.selectorRead, if_neg (by rw [hv]; nofun), if_neg h0, if_neg (not_or.2 ⟨h1, h2⟩)]

theorem judgePair_new {s : State} {sel seq : Word} (bad : Bool) (n : BitVec 32)
    (h : s.sr.lastPair ≠ some (sel, seq)) : s.judgePair sel seq bad n = { s with
      sr := { s.sr with lastPair := some (sel, seq), exam := .found sel seq bad n } } := by
  rw [State.judgePair, if_neg h]
  rfl

theorem judgePair_same {s : State} {sel seq : Word} (bad : Bool) (n : BitVec 32)
    (h : s.sr.lastPair = some (sel, seq)) :
    s.judgePair sel seq bad n = { s with sr := { s.sr with exam := .none } } := by
  rw [State.judgePair, if_pos h]
  rfl

/-- Settles O16: each completion through what the Settings Reader does with the word it awaits, each read through what
it presents with nothing to write. -/
theorem selectorReadAtTheLook : Obligations.SelectorReadAtTheLook := by
  refine ⟨?_, ?_, ?_⟩
  · intro dt s v n u hi ha hx free sr
    have hheard : ∀ e : State,
        ({ u with
          ma := free, al := if v.good then u.al else { u.al with faultAddr := 0 }, sr := sr } :
          State).selectorRead v n = e →
        ∃ t, exec (.memoryAccessComplete dt) s = .next t ∧ Settled e t := fun e he => by
      refine access_settled hi ?_
      rw [completed_read]
      simp only [State.accessHeard, State.readerHears]
      dsimp only [State.withSr]
      rw [show (s.elapse dt).sr.awaiting = .selector from ha,
        show (s.elapse dt).sr.exam = .readSelector n from hx]
      exact he
    refine ⟨fun hv => hheard _ ?_, fun hv h0 => hheard _ ?_, fun hv h12 => hheard _ ?_,
      fun hv h0 h1 h2 hl => hheard _ ?_, fun hv h0 h1 h2 hl => hheard _ ?_⟩
    · rw [selectorRead_bad n hv, hv]; rfl
    · rw [selectorRead_zero n hv h0, hv]; rfl
    · rw [selectorRead_page n hv h12, hv]; rfl
    · rw [selectorRead_other n hv h0 h1 h2, hv]; exact judgePair_new false n hl
    · rw [selectorRead_other n hv h0 h1 h2, hv]; exact judgePair_same false n hl
  · intro dt s addr v u hi e done
    refine ⟨fun sel n ha hx => ?_, fun sel seq ws ha hx => ?_⟩
    · have hheard : ∀ t : State, e.judgePair sel v.data (!v.good) n = t →
          exec (.memoryAccessComplete dt) s = .next (t.settle u) := fun t ht => by
        refine access_done hi ?_
        rw [completed_read]
        simp only [State.accessHeard, State.readerHears]
        dsimp only [State.withSr]
        rw [show (s.elapse dt).sr.awaiting = .pageSeq from ha, show (s.elapse dt).sr.exam = .readSeq sel n from hx]
        exact ht
      refine ⟨fun hl => hheard _ ?_, fun hl => hheard _ ?_⟩
      · exact judgePair_same (s := e) _ n hl
      · exact judgePair_new (s := e) _ n hl
    · refine access_done hi ?_
      rw [completed_read]
      simp only [State.accessHeard, State.readerHears, State.pageWordRead]
      dsimp only [State.withSr]
      rw [show (s.elapse dt).sr.awaiting = .pageWord from ha,
        show (s.elapse dt).sr.exam = .copying sel seq ws none from hx]
  · intro s hf hc hrest hrep hm reads
    rw [presentSr_exam hf hc hrest hrep hm]
    refine ⟨fun n h => ?_, fun n h => ?_, fun n h => ?_, fun seq ws hl => ⟨fun h => ?_, fun h => ?_⟩,
      fun sel seq ws k h hk => ?_, fun sel seq bad n h => ?_⟩
    · rw [State.presentExam, h]; rfl
    · rw [State.presentExam, h]; rfl
    · rw [State.presentExam, h]; rfl
    · rw [State.presentExam, h]
      exact if_pos hl
    · rw [State.presentExam, h]
      exact if_pos hl
    · rw [State.presentExam, h]
      cases k with
      | none => exact if_neg (by simpa [Config.pageWords] using hk)
      | some k => rfl
    · rw [State.presentExam]
      rcases h with h | h <;> rw [h]

/-! ## The Record Writer's grants (R146, R147, R152) -/

/-- The Record Writer's request comes before every other (R163). -/
theorem choice_writer {ma : Arbiter} {r : Request} (hi : ma.inflight = none) (hc : ma.clearHold = false)
    (hq : ma.reqRw = some r) : ma.choice = some (.recordWriter, r) := by
  simp [Arbiter.choice, hi, hc, hq]

/-- `q` is `e` with a request of the Record Writer's granted, and what presenting it left of its work; the bookkeeping
of the grant is still to be done. -/
structure WriterGrant (e q : State) (r : Request) (w : RwWork) : Prop where
  rw : q.rw = { e.rw with work := w }
  al : q.al = e.al
  ft : q.ft = e.ft
  be : q.be = e.be
  axes : q.axes = e.axes
  lc : q.lc = e.lc
  ms : q.ms = e.ms
  inflight : q.ma.inflight = some
    { who := .recordWriter, addr := r.addr,
      read := r.write.elim (some (memFetch e.mem e.clk.tb r.addr)) fun _ => none }
  mem : q.mem = r.write.elim e.mem (memWrite e.mem r.addr)

/-- The Record Writer's request presented on an idle arbiter is granted in the step. -/
theorem settle_writer {e : State} (b : State) {r : Request} {w : RwWork} (hi : e.ma.inflight = none)
    (hc : e.ma.clearHold = false)
    (hp : ∀ m, (e.withSr m).presentRw =
      ((e.withSr m).withMa { e.ma with reqRw := some r }).withRw { e.rw with work := w }) :
    ∃ q, e.settle b = q.rwGranted.present ∧ WriterGrant e q r w := by
  have hpres := (markChanged_presented e b).trans (present_presented (e.markChanged b))
  have hm := hp { e.sr with
    marks := marksWith e.sr.marks (fun f => e.mirrorWords f != b.mirrorWords f) }
  have hwriter := present_writer (e.markChanged b)
  rw [show (e.markChanged b).presentRw = _ from hm] at hwriter
  have hchoice : (e.markChanged b).present.ma.choice = some (.recordWriter, r) :=
    choice_writer (hpres.inflight.trans hi) (hpres.clearHold.trans hc) hwriter.2
  rw [State.settle]
  generalize (e.markChanged b).present = p at hpres hwriter hchoice
  refine ⟨(p.withdraw .recordWriter).access .recordWriter r, ?_, ?_⟩
  · rw [grant_of_choice hchoice, if_pos rfl]
  · unfold State.access
    obtain ⟨addr, write⟩ := r
    cases write with
    | none =>
      exact ⟨hwriter.1, hpres.al, hpres.ft, hpres.be, hpres.axes, hpres.lc, hpres.ms,
        by rw [← hpres.mem, ← hpres.clk]; rfl, hpres.mem⟩
    | some v =>
      exact ⟨hwriter.1, hpres.al, hpres.ft, hpres.be, hpres.axes, hpres.lc, hpres.ms, rfl,
        congrArg (memWrite · addr v) hpres.mem⟩

/-! What the Record Writer presents of each work. -/

section
variable {s : State} (hf : s.ma.free .recordWriter = true)
include hf

theorem presentRw_judging {n : BeginNotice} {i base : Nat} (hw : s.rw.work = .judging n i base false) :
    s.presentRw = (s.withMa { s.ma with reqRw := some { addr := base, write := none } }).withRw
      { s.rw with work := .judging n i base true } := by
  simp [State.presentRw, hf, hw]

theorem presentRw_opening {w : WordWrite} {ws : List WordWrite} (hw : s.rw.work = .opening (w :: ws)) :
    s.presentRw = (s.withMa { s.ma with reqRw := some { addr := w.1, write := some w.2 } }).withRw
      { s.rw with work := .opening ws } := by
  simp [State.presentRw, hf, hw]

theorem presentRw_recording {w : WordWrite} {ws : List WordWrite} {r : RecordItem}
    (hw : s.rw.work = .recording (w :: ws) r) :
    s.presentRw = (s.withMa { s.ma with reqRw := some { addr := w.1, write := some w.2 } }).withRw
      { s.rw with work := .recording ws r } := by
  simp [State.presentRw, hf, hw]

theorem presentRw_closing {w : WordWrite} {ws : List WordWrite} (hw : s.rw.work = .closing (w :: ws)) :
    s.presentRw = (s.withMa { s.ma with reqRw := some { addr := w.1, write := some w.2 } }).withRw
      { s.rw with work := .closing ws } := by
  simp [State.presentRw, hf, hw]

end

/-- Only a word read is judged. -/
theorem recordWriterHears_write (s : State) (who : Requestor) (addr : Nat) :
    s.recordWriterHears { who := who, addr := addr, read := none } = s := by
  unfold State.recordWriterHears
  split
  · rename_i h; cases h
  · rfl

/-- The Record Writer is free once its access is over and nothing of its is pending. -/
theorem writer_free {ma : Arbiter} (hi : ma.inflight = none) (hq : ma.reqRw = none) :
    ma.free .recordWriter = true := by
  simp [Arbiter.free, Arbiter.serves, hi, hq]

/-- Settles O29: the last word of each work is presented and granted in the step that its access before completes, and
the bookkeeping of that grant leaves work that rests. -/
theorem lastGrantsEndTheRecordWritersWork : Obligations.LastGrantsEndTheRecordWritersWork := by
  intro dt s addr base w u hi hc hq ends
  let e : State := { u with ma := { u.ma with inflight := none } }
  have hexec : exec (.memoryAccessComplete dt) s = .next (e.settle u) := by
    refine access_done hi ?_
    rw [completed_write]
    exact recordWriterHears_write e .recordWriter addr
  have hfree : ∀ m, (e.withSr m).ma.free .recordWriter = true := fun _ => writer_free rfl hq
  have hends : ∀ (work : RwWork) (rw' : RecordWriter) (al' : Attention),
      (∀ m, (e.withSr m).presentRw = ((e.withSr m).withMa
        { e.ma with reqRw := some { addr := base, write := some w } }).withRw { e.rw with work := work }) →
      (∀ q : State, q.rw = { u.rw with work := work } → q.al = u.al → ∃ m, q.rwGranted = { q with
        rw := rw', al := al', sr := m }) → rw'.work.rests = true → ends rw' al' := by
    intro work rw' al' hp hg hrest
    obtain ⟨q, hs, hq⟩ := settle_writer (e := e) u (r := { addr := base, write := some w }) rfl hc hp
    obtain ⟨m, hg⟩ := hg q hq.rw hq.al
    have hpres := present_presented q.rwGranted
    refine ⟨_, hexec, ?_, ?_, ?_, ?_, ?_, ?_, ?_, ?_, ?_⟩ <;> rw [hs]
    · rw [(present_writer _).1, presentRw_rests (by rw [hg]; exact hrest), hg]
    · rw [hpres.al, hg]
    · rw [hpres.mem, hg]; exact hq.mem
    · rw [hpres.inflight, hg]; exact hq.inflight
    · rw [hpres.ft, hg]; exact hq.ft
    · rw [hpres.be, hg]; exact hq.be
    · rw [hpres.axes, hg]; exact hq.axes
    · rw [hpres.lc, hg]; exact hq.lc
    · rw [hpres.ms, hg]; exact hq.ms
  refine ⟨fun o hw ho => hends (.closing []) _ _ (fun m => ?_) (fun q hq hal => ?_) rfl,
    fun r hw => hends (.recording [] r) _ _ (fun m => ?_) (fun q hq hal => ?_) rfl,
    fun hw => hends (.opening []) _ _ (fun m => ?_) (fun q hq hal => ?_) rfl⟩
  · exact presentRw_closing (s := e.withSr m) (hfree m) hw
  · have hslot : q.rw.openSlot = some o := by rw [hq]; exact ho
    refine ⟨q.slotClosed.sr, ?_⟩
    simp only [State.rwGranted, hq]
    rw [slotClosed_some q o hslot, ← hal, hq]
    rfl
  · exact presentRw_recording (s := e.withSr m) (hfree m) hw
  · refine ⟨q.sr, ?_⟩
    simp only [State.rwGranted, hq, ← hal]
    rfl
  · exact presentRw_opening (s := e.withSr m) (hfree m) hw
  · refine ⟨q.sr, ?_⟩
    simp only [State.rwGranted, hq, ← hal]
    rfl

/-! ## Opening a slot (R145 to R147) -/

/-- The header's flags, bit by bit (R177). -/
theorem headerWords_eq (s : State) (n : BeginNotice) (taken : Bool) : s.headerWords n taken =
    [1, n.number.extractLsb' 16 16, n.number.extractLsb' 0 16, n.t0.extractLsb' 16 16,
      n.t0.extractLsb' 0 16, bitsWord [false, false, false, taken, s.pl.st != .ready, s.ms.mount == .absent],
      BitVec.ofNat 16 n.bands, 0, n.seq, s.pl.headerSerial, axisWord s.axes.focus, axisWord s.axes.iris,
      axisWord s.axes.zoom, 0, 0, 0] := by
  rw [State.headerWords, headerFlags_bits]
  rfl

theorem raiseIf_spec (s : State) (b : Bool) (c : Cause) : s.raiseIf b c = { s with al := s.al.raiseWhen b c } := by
  cases b <;> rfl

/-- The judgement of a slot's STATE word: its causes, and work that rests. -/
theorem slotJudged_spec (s : State) (n : BeginNotice) (i base : Nat) (v : Stored) :
    s.slotJudged n i base v = { s with
      al := (s.al.raiseWhen (!v.good || v.data != 0) .overrun).raiseWhen (!v.good) .parity
      rw := { s.rw with work := .judged n i base (!v.good || v.data != 0) } } := by
  simp only [State.slotJudged, raiseIf_spec]
  rfl

/-- Settles O17: the read of STATE is the Record Writer's only request, its judgement leaves work that rests, so that a
port write that waits is granted, and the second SLOT_OPEN writes the header. -/
theorem slotOpenNamesJudgesAndWrites : Obligations.SlotOpenNamesJudgesAndWrites := by
  refine ⟨?_, ?_, ?_⟩
  · intro dt s n rest u hw hqueue i base
    let e : State := { u with rw := { u.rw with nextSlot := i, queue := rest, work := .judging n i base false } }
    have hevent : eventOf (.slotOpen dt) u = some e := by
      change slotOpened u = _
      simp only [slotOpened, hw, hqueue]
      rfl
    refine ⟨e.settle u, exec_of_some hevent, settle_settled _ _, fun hma => ?_⟩
    have hi : u.ma.inflight = none := by rw [hma]; rfl
    have hc : u.ma.clearHold = false := by rw [hma]
    have hq : u.ma.reqRw = none := by rw [hma]; rfl
    obtain ⟨q, hs, hg⟩ := settle_writer (e := e) u (r := { addr := base, write := none })
      (w := .judging n i base true) hi hc
      fun m => presentRw_judging (s := e.withSr m) (writer_free hi hq) rfl
    rw [hs, (present_presented _).inflight, rwGranted_rests (by rw [hg.rw]; rfl), hg.inflight]
    rfl
  · intro dt s n index base v u hi hw taken e
    have he : (u.completed { who := .recordWriter, addr := base, read := some v }).recordWriterHears
        { who := .recordWriter, addr := base, read := some v } = e := by
      rw [completed_read]
      simp only [State.recordWriterHears]
      rw [hw]
      exact slotJudged_spec _ n index base v
    have hrw : (e.settle u).rw = e.rw := settle_rw_rests u rfl
    refine ⟨access_done hi he, hrw, fun k w hq hc hp hr => ?_⟩
    have hbusy : (e.markChanged u).ma.free .systemPort = false := by
      change ({ u.ma with inflight := none } : Arbiter).free .systemPort = false
      simp [Arbiter.free, hq]
    have hreq : (e.markChanged u).present.ma.reqPort = some { addr := k, write := some w } := by
      rw [(present_port _).2, presentPort_of_busy hbusy]
      exact hq
    exact ((settle_port_granted (e := e) u rfl hc hp hr rfl hreq).2 w rfl).symm
  · intro dt s n index base taken u hw noProfile noLens serial axis header words
    refine exec_of_some (c := .slotOpen dt) ?_
    change slotOpened u = _
    simp only [slotOpened, hw, State.openJudged, headerWords_eq]
    rfl

/-! ## The Profile Loader (R77, R79, R85) -/

theorem spansShare_iff (a la b lb : Nat) : spansShare a la b lb = true ↔ a < b + lb ∧ b < a + la :=
  decide_eq_true_iff

theorem pairDiffers_iff (c : Settings) (base : Nat) (serial : BitVec 32) :
    pairDiffers c base serial = true ↔ c.profileBase ≠ base ∨ c.profileSerial ≠ serial := by
  simp [pairDiffers]

section
variable {s : State} {c : Settings} {l : Load}

theorem profileAdopts_starts (h : s.pl.startsLoad c = true) : s.profileAdopts c = s.loadStarts c := by
  rw [State.profileAdopts, if_pos h]

/-- READY, nothing is decided without a new pair. -/
theorem profileAdopts_ready (h : s.pl.startsLoad c = false) (hst : s.pl.st = .ready) : s.profileAdopts c = s := by
  simp [State.profileAdopts, h, hst]

theorem profileAdopts_unbound (h : s.pl.startsLoad c = false) (hst : s.pl.st = .unbound) :
    s.profileAdopts c = if s.ms.mount = .present then (s.raise .profile).enterReady else s := by
  simp [State.profileAdopts, h, hst]

/-- A load whose header is being fetched goes on. -/
theorem profileAdopts_header (h : s.pl.startsLoad c = false) (hst : s.pl.st = .loading)
    (hl : s.pl.load = some l) (hp : l.phase = .header) : s.profileAdopts c = s := by
  simp [State.profileAdopts, h, hst, hl, hp]

/-- A load past its header is judged against the new ring. -/
theorem profileAdopts_body {n : Nat} (h : s.pl.startsLoad c = false) (hst : s.pl.st = .loading)
    (hl : s.pl.load = some l) (hp : l.phase = .body ∨ l.phase = .finishing) (hn : l.extent = some n) :
    s.profileAdopts c =
      if spansShare l.base n c.ringBase (ringSize c.ringSlots c.bands) then s.loadFails l .layout else s := by
  rcases hp with hp | hp <;> simp [State.profileAdopts, h, hst, hl, hp, hn]

theorem startsLoad_reload (h : c.profileReload = true) : s.pl.startsLoad c = true := by
  simp [ProfileLoader.startsLoad, h]

theorem startsLoad_fresh (h : s.pl.st = .empty ∨ s.pl.st = .faulted) : s.pl.startsLoad c = true := by
  rcases h with h | h <;> simp [ProfileLoader.startsLoad, h]

theorem startsLoad_loaded {p : Loaded} (h : s.pl.st = .ready ∨ s.pl.st = .unbound) (hp : s.pl.loaded = some p) :
    s.pl.startsLoad c = (c.profileReload || pairDiffers c p.base p.serial) := by
  rcases h with h | h <;> simp [ProfileLoader.startsLoad, h, hp]

theorem startsLoad_loading (h : s.pl.st = .loading) (hl : s.pl.load = some l) :
    s.pl.startsLoad c = (c.profileReload || pairDiffers c l.base l.serial) := by
  simp [ProfileLoader.startsLoad, h, hl]

end

/-- What a load wants. -/
theorem wants_iff (l : Load) : l.wants = true ↔ l.parityFailed = false ∧
    ((l.phase = .header ∧ l.words.length < 7) ∨
      (l.phase = .body ∧ ∃ n, l.extent = some n ∧ l.words.length < n)) := by
  cases hp : l.phase <;> cases hx : l.extent <;> simp [Load.wants, hp, hx]

/-- Settles O33: the decision by its cases, a fetched word by what the loader hears, a fetch by what it presents. -/
theorem profileLoaderAdoptsAndFetches : Obligations.ProfileLoaderAdoptsAndFetches := by
  refine ⟨?_, ?_, ?_⟩
  · intro s c started aged other
    have hstart : s.pl.startsLoad c = true → s.profileAdopts c = started := fun h =>
      (profileAdopts_starts h).trans (loadStarts_spec s c)
    have hkeep : ∀ {base serial}, c.profileReload = false → ¬ other base serial →
        (c.profileReload || pairDiffers c base serial) = false := fun {base serial} hr ho => by
      rw [hr, Bool.false_or, ← Bool.not_eq_true, pairDiffers_iff]
      exact ho
    refine ⟨fun h => ?_, fun l h hl ho => ?_, fun l h hl ho => ?_, fun l hr hl ho => ⟨fun h => ?_, fun h hm => ?_,
      fun h hm => ?_⟩, fun l hr h hl ho => ⟨fun hp => ?_, fun n hp hn => ⟨fun hs => ?_, fun hs => ?_⟩⟩⟩
    · refine hstart ?_
      rcases h with h | h
      · exact startsLoad_reload h
      · exact startsLoad_fresh h
    · exact hstart (by rw [startsLoad_loaded h hl, (pairDiffers_iff _ _ _).2 ho, Bool.or_true])
    · exact hstart (by rw [startsLoad_loading h hl, (pairDiffers_iff _ _ _).2 ho, Bool.or_true])
    · exact profileAdopts_ready (by rw [startsLoad_loaded (.inl h) hl]; exact hkeep hr ho) h
    · rw [profileAdopts_unbound (by rw [startsLoad_loaded (.inr h) hl]; exact hkeep hr ho) h, if_neg (by rw [hm]; nofun)]
    · rw [profileAdopts_unbound (by rw [startsLoad_loaded (.inr h) hl]; exact hkeep hr ho) h, if_pos hm]
      rfl
    · exact profileAdopts_header (by rw [startsLoad_loading h hl]; exact hkeep hr ho) h hl hp
    · rw [profileAdopts_body (by rw [startsLoad_loading h hl]; exact hkeep hr ho) h hl hp hn,
        if_neg (mt (spansShare_iff _ _ c.ringBase (ringSize c.ringSlots c.bands)).1 hs)]
    · rw [profileAdopts_body (by rw [startsLoad_loading h hl]; exact hkeep hr ho) h hl hp hn,
        if_pos ((spansShare_iff _ _ c.ringBase (ringSize c.ringSlots c.bands)).2 hs)]
      exact loadFails_spec s l .layout
  · intro dt s addr v u hi e
    have he : ∀ t : State, e.loaderHears { who := .profileLoader, addr := addr, read := some v } = t →
        exec (.memoryAccessComplete dt) s = .next (t.settle u) := fun t ht => by
      refine access_done hi ?_
      rw [completed_read]
      exact ht
    refine ⟨fun l ha hl => he _ ?_, fun ha => he _ ?_⟩
    · simp only [State.loaderHears, e, ha, hl]
      rfl
    · simp only [State.loaderHears, e, ha]
  · intro s l hf hl wants
    refine ⟨fun h => ?_, fun h => ?_⟩
    · rw [State.presentPl, if_pos hf, hl]
      exact if_pos ((wants_iff l).2 h)
    · rw [State.presentPl, if_pos hf, hl]
      exact if_neg (fun k => h ((wants_iff l).1 k))

end Sys2Proof.Machine

/-! PROOFS. The status mirror: every change of an item is marked or on its way to memory: settles O15. -/

namespace Sys2Proof.Machine

/-! ## What a mirrored field holds (R174) -/

/-- A field holds one word or two. -/
theorem mirrorWords_cons (s : State) (f : MirrorField) :
    ∃ w rest, s.mirrorWords f = w :: rest ∧ rest.length ≤ 1 := by
  cases f with
  | axis x i => cases i <;> exact ⟨_, _, rfl, by simp⟩
  | _ => exact ⟨_, _, rfl, by simp⟩

theorem mirrorField_addr_lt (f : MirrorField) : f.addr < Config.memoryWords := by
  cases f with
  | axis x i => cases x <;> cases i <;> decide
  | _ => decide

/-- The fields hang on the items only, not on what the requestors have at hand. -/
theorem mirrorWords_congr {s t : State} (hal : t.al.part = s.al.part)
    (hpl : ∃ b, t.pl = { s.pl with awaiting := b }) (hms : t.ms = s.ms)
    (hw : t.rw.warnCount = s.rw.warnCount) (hn : t.rw.nextSlot = s.rw.nextSlot) (hft : t.ft = s.ft)
    (hax : t.axes = s.axes) (hlc : t.lc.st = s.lc.st) (hseq : t.lc.seq = s.lc.seq) (f : MirrorField) :
    t.mirrorWords f = s.mirrorWords f := by
  obtain ⟨b, hpl⟩ := hpl
  cases f <;> simp only [State.mirrorWords, hal, hpl, hms, hw, hn, hft, hax, hlc, hseq]
  rfl

theorem Presented.mirrorWords {u t : State} (h : Presented u t) (f : MirrorField) :
    t.mirrorWords f = u.mirrorWords f :=
  mirrorWords_congr (by rw [h.al]) ⟨_, h.pl⟩ h.ms (by rw [h.rw]) (by rw [h.rw]) h.ft h.axes (by rw [h.lc])
    (by rw [h.lc]) f

theorem mem_markChanged {s b : State} {f : MirrorField} :
    f ∈ (s.markChanged b).sr.marks ↔ f ∈ s.sr.marks ∨ s.mirrorWords f ≠ b.mirrorWords f := by
  simp only [State.markChanged, State.withSr_sr, mem_marksWith (mem_mirrorFields f), bne_iff_ne]

theorem mem_markField {s : State} {f g : MirrorField} :
    f ∈ (s.markField g).sr.marks ↔ f ∈ s.sr.marks ∨ f = g := by
  simp only [State.markField, State.withSr_sr, mem_marksWith (mem_mirrorFields f), beq_iff_eq]

/-! ## A change that reaches memory (R192) -/

/-- The field is marked, or its first word as the item stands is being written. -/
def State.shows (s : State) (f : MirrorField) : Prop :=
  f ∈ s.sr.marks ∨ ∃ w rest, s.mirrorWords f = w :: rest ∧
    (s.ma.reqSr = some { addr := f.addr, write := some w } ∨
      (s.ma.inflight = some { who := .settingsReader, addr := f.addr, read := none } ∧
        memRead s.mem f.addr = { data := w, parity := parityFor w }))

/-- Presenting takes a mark only by presenting its field. -/
theorem shows_present {s : State} {f : MirrorField} (h : s.shows f) : s.present.shows f := by
  have hp := present_presented s
  obtain ⟨hsr, hreq⟩ := present_reader s
  have hwords := hp.mirrorWords f
  unfold State.shows
  rw [hsr, hreq, hwords, hp.inflight, hp.mem]
  rcases h with h | ⟨w, rest, hw, h⟩
  · by_cases hf : s.ma.free .settingsReader = true
    · by_cases hc : s.ma.clearHold = false
      · cases hr : s.sr.mirrorRest with
        | some w => left; rw [presentSr_rest hf hc hr]; exact h
        | none =>
          cases hq : s.sr.report with
          | cons w ws => left; rw [presentSr_report hf hc hr hq]; exact h
          | nil =>
            cases hm : s.sr.marks with
            | nil => rw [hm] at h; cases h
            | cons g fs =>
              obtain ⟨w, rest, hw, -⟩ := mirrorWords_cons s g
              rw [presentSr_mark hf hc hr hq hm hw]
              rw [hm] at h
              rcases List.mem_cons.1 h with rfl | h
              · exact .inr ⟨w, rest, hw, .inl rfl⟩
              · exact .inl h
      · left; rw [presentSr_held (by simpa using hc)]; exact h
    · left; rw [presentSr_of_busy (by simpa using hf)]; exact h
  · right
    refine ⟨w, rest, hw, ?_⟩
    rcases h with h | ⟨h, hmem⟩
    · left
      rw [presentSr_of_busy (by simp [Arbiter.free, h])]
      exact h
    · exact .inr ⟨h, hmem⟩

/-- The Record Writer's bookkeeping moves no item but NEXT_SLOT, which it marks. -/
theorem rwGranted_marks (s : State) (f : MirrorField) :
    (f ∈ s.sr.marks → f ∈ s.rwGranted.sr.marks) ∧
    (s.rwGranted.mirrorWords f = s.mirrorWords f ∨ f ∈ s.rwGranted.sr.marks) := by
  rcases rwGranted_spec s with ⟨w, h⟩ | ⟨o, -, ho, h⟩
  · rw [h]
    exact ⟨id, .inl (mirrorWords_congr rfl ⟨_, rfl⟩ rfl rfl rfl rfl rfl rfl rfl f)⟩
  · rw [h, slotClosed_some s o ho]
    refine ⟨fun hf => mem_markField.2 (.inl hf), ?_⟩
    cases f with
    | nextSlot => exact .inr (mem_markField.2 (.inr rfl))
    | _ => exact .inl rfl

/-- A granted access moves no item. -/
theorem access_mirrorWords (s : State) (who : Requestor) (r : Request) (f : MirrorField) :
    ((s.withdraw who).access who r).mirrorWords f = s.mirrorWords f ∧
      ((s.withdraw who).access who r).sr = s.sr := by
  unfold State.access
  split
  · exact ⟨mirrorWords_congr rfl ⟨_, rfl⟩ rfl rfl rfl rfl rfl rfl rfl f, rfl⟩
  · exact ⟨mirrorWords_congr rfl ⟨_, rfl⟩ rfl rfl rfl rfl rfl rfl rfl f, rfl⟩

theorem grant_marks (s : State) (f : MirrorField) :
    (f ∈ s.sr.marks → f ∈ s.grant.sr.marks) ∧
    (s.grant.mirrorWords f = s.mirrorWords f ∨ f ∈ s.grant.sr.marks) := by
  cases hc : s.ma.choice with
  | none => rw [grant_none hc]; exact ⟨id, .inl rfl⟩
  | some x =>
    obtain ⟨hw, hsr⟩ := access_mirrorWords s x.1 x.2 f
    rw [grant_of_choice hc]
    split
    · rw [← hw, ← hsr]
      exact rwGranted_marks _ f
    · rw [hw, hsr]
      exact ⟨id, .inl rfl⟩

/-- The Settings Reader's write is granted with its word, or stays pending. -/
theorem grant_reader {s : State} {r : Request} (h : s.ma.reqSr = some r) :
    s.grant.ma.reqSr = some r ∨ ∀ w, r.write = some w →
      s.grant.ma.inflight = some { who := .settingsReader, addr := r.addr, read := none } ∧
      s.grant.mem = memWrite s.mem r.addr w := by
  cases hc : s.ma.choice with
  | none => left; rw [grant_none hc]; exact h
  | some x =>
    obtain ⟨who, q⟩ := x
    by_cases hwho : who = .settingsReader
    · right
      subst hwho
      obtain ⟨acc, hacc, hw, ha, -, hwrite⟩ := grant_access hc
      obtain ⟨-, -, hq, -⟩ := choice_spec hc
      obtain rfl : r = q := Option.some.inj (h.symm.trans hq)
      intro w hsome
      obtain ⟨hmem, hread⟩ := hwrite w hsome
      obtain ⟨who, addr, read⟩ := acc
      cases hw; cases ha; cases hread
      exact ⟨hacc, hmem⟩
    · left
      have hma : s.grant.ma.reqSr = ((s.withdraw who).access who q).ma.reqSr := by
        rw [grant_of_choice hc]
        split
        · rw [(rwGranted_memory _).2.1]
        · rfl
      rw [hma, ← h]
      unfold State.access
      cases who <;> first | exact absurd rfl hwho | (split <;> rfl)

/-- A grant writes the field, keeps it marked, or marks it as it changes it. -/
theorem shows_grant {s : State} {f : MirrorField} (hm : s.memoryOk)
    (h : s.shows f ∨ s.grant.mirrorWords f ≠ s.mirrorWords f) : s.grant.shows f := by
  obtain ⟨hkeep, hsame⟩ := grant_marks s f
  rcases hsame with hsame | hmark
  · rcases h with h | h
    · rcases h with h | ⟨w, rest, hw, h⟩
      · exact .inl (hkeep h)
      · right
        refine ⟨w, rest, by rw [hsame]; exact hw, ?_⟩
        rcases h with h | ⟨h, hmem⟩
        · rcases grant_reader h with hg | hg
          · exact .inl hg
          · obtain ⟨hin, hmem⟩ := hg w rfl
            refine .inr ⟨hin, ?_⟩
            rw [hmem]
            exact memRead_memWrite_same _ _ _ hm (mirrorField_addr_lt f)
        · rw [grant_of_inflight (by rw [h]; rfl)]
          exact .inr ⟨h, hmem⟩
    · exact absurd hsame h
  · exact .inl hmark

/-- The end of a step shows every field that its event changed or left marked, and every field that it changes
itself. -/
theorem settle_shows {e b : State} {f : MirrorField} (hm : e.memoryOk)
    (h : f ∈ e.sr.marks ∨ e.mirrorWords f ≠ b.mirrorWords f ∨ (e.settle b).mirrorWords f ≠ e.mirrorWords f) :
    (e.settle b).shows f := by
  have hpres := (markChanged_presented e b).trans (present_presented _)
  have hlast := present_presented (e.markChanged b).present.grant
  refine shows_present (shows_grant (by rw [State.memoryOk, hpres.mem]; exact hm) ?_)
  by_cases hg : (e.markChanged b).present.grant.mirrorWords f = (e.markChanged b).present.mirrorWords f
  · left
    refine shows_present (.inl (mem_markChanged.2 ?_))
    rcases h with h | h | h
    · exact .inl h
    · exact .inr h
    · exact absurd ((hlast.mirrorWords f).trans (hg.trans (hpres.mirrorWords f))) h
  · exact .inr hg

/-! ## Marks that time and events leave -/

/-- A change of an item is marked, and no mark is lost. -/
def MarksChanges (s t : State) : Prop :=
  ∀ f, (f ∈ s.sr.marks → f ∈ t.sr.marks) ∧ (t.mirrorWords f ≠ s.mirrorWords f → f ∈ t.sr.marks)

theorem MarksChanges.trans {a b c : State} (h : MarksChanges a b) (k : MarksChanges b c) : MarksChanges a c :=
  fun f => ⟨(k f).1 ∘ (h f).1, fun hne => by
    by_cases hb : b.mirrorWords f = a.mirrorWords f
    · exact (k f).2 (by rw [hb]; exact hne)
    · exact (k f).1 ((h f).2 hb)⟩

theorem marksChanges_of_same {s t : State} (hsr : t.sr = s.sr) (hw : ∀ f, t.mirrorWords f = s.mirrorWords f) :
    MarksChanges s t := fun f => ⟨fun h => by rw [hsr]; exact h, fun h => absurd (hw f) h⟩

theorem pass_marks (s : State) (d : Time) : MarksChanges s (s.pass d) := by
  cases hr : s.clk.resetn with
  | false => rw [pass_held d hr]; exact marksChanges_of_same rfl fun _ => rfl
  | true =>
    rw [pass_frame d hr]
    exact marksChanges_of_same rfl (mirrorWords_congr rfl ⟨_, rfl⟩ rfl rfl rfl rfl rfl rfl rfl)

/-- The REPLY-LEAD of the part's own MARK marks LINK_STATE; no other edge moves an item (R104). -/
theorem fall_marks (s : State) (n : Nat) : MarksChanges s (s.fall n) := by
  have hsame : ∀ lc : Link, lc.st = s.lc.st → lc.seq = s.lc.seq → MarksChanges s (s.withLc lc) :=
    fun lc hst hseq => marksChanges_of_same rfl
      (mirrorWords_congr rfl ⟨_, rfl⟩ rfl rfl rfl rfl rfl hst hseq)
  unfold State.fall
  dsimp only
  split
  · exact marksChanges_of_same rfl fun _ => rfl
  · split
    · split
      · exact hsame _ rfl rfl
      · intro f
        refine ⟨fun h => mem_markField.2 (.inl h), fun h => ?_⟩
        cases f with
        | linkState => exact mem_markField.2 (.inr rfl)
        | _ => exact absurd rfl h
    · exact hsame _ rfl rfl
  · split
    · exact hsame _ rfl rfl
    · exact hsame _ rfl rfl
  · exact hsame _ rfl rfl

theorem edge_marks (s : State) : MarksChanges s s.edge := by
  have hsame : ∀ w, MarksChanges s (s.withWire w) := fun w => marksChanges_of_same rfl
    (mirrorWords_congr rfl ⟨_, rfl⟩ rfl rfl rfl rfl rfl rfl rfl)
  unfold State.edge
  split
  · exact hsame _
  · dsimp only
    split
    · exact (hsame _).trans (fall_marks _ _)
    · exact hsame _

theorem elapse_marks (s : State) (dt : Span) : MarksChanges s (s.elapse dt) := by
  fun_induction State.elapse s dt with
  | case1 s => exact marksChanges_of_same rfl fun _ => rfl
  | case2 s d => exact pass_marks s d
  | case3 s d e rest ih => exact ((pass_marks s d).trans (edge_marks _)).trans ih

/-- A frame start that brings settings in force adds to the words to be written and to the marks. -/
theorem adoptPending_sr {s : State} {a : Adopted} (h : s.sr.pendingCopy = some a) : ∃ p, s.adoptPending.sr =
    { s.sr with
      prevRate := s.rate, inForce := some a, pendingCopy := none,
      report := s.sr.report ++ inForceReport a (s.ft.frameNo + 1),
      marks := marksWith s.sr.marks p } := by
  have hserve : ∀ t : State, (t.servesSettings s a.settings).sr =
      ((t.axesAdopt s.mode s.unit a.settings).markChanged s).sr := fun t => by
    unfold State.servesSettings
    dsimp only
    rw [startTimer_frame]
    have hrate : ∀ u : State, u.breakForRate.sr = u.sr := fun u => by
      unfold State.breakForRate
      split
      case h_5 => split <;> [(rw [axesBreakBegin_spec]; rfl); rw [sendBreak_frame]]
      all_goals first | rfl | rw [sendBreak_frame]
    split
    · rw [profileAdopts_frame]
    · change (State.breakForRate _).sr = _
      rw [hrate, profileAdopts_frame]
  unfold State.adoptPending
  rw [h]
  dsimp only
  rw [hserve, State.axesAdopt, moveAxes_frame]
  exact ⟨_, rfl⟩

theorem adoptPending_none {s : State} (h : s.sr.pendingCopy = none) : s.adoptPending = s := by
  simp [State.adoptPending, h]

/-- No event loses a mark: a soft reset and the end of the clear mark every field. -/
theorem event_marks {c : Instr} {s t : State} (h : eventOf c s = some t) (f : MirrorField)
    (hf : f ∈ s.sr.marks) : f ∈ t.sr.marks := by
  have hcontrol : ∀ {v}, s.controlWrite v = some t → f ∈ t.sr.marks := fun {v} k => by
    rcases (controlWrite_cases k).2 with k | k | k
    · rw [(runCommand_spec k).2, sendBreak_frame]; exact hf
    · rw [(haltCommand_spec k).2]; exact hf
    · rw [(sresetCommand_spec k).2]; exact mem_mirrorFields f
  cases c with
  | memoryClearDone =>
    simp only [eventOf, memoryCleared] at h
    split at h <;> cases h
    exact mem_mirrorFields f
  | run | halt | sreset => exact hcontrol h
  | registerWriteIgnored =>
    rcases registerWrite_cases h with h | h | h
    · exact hcontrol h
    · rw [causesWritten_frame h]; exact hf
    · rw [enablesWritten_frame h]; exact hf
  | memoryAccessComplete =>
    have hcomplete : accessCompletes s = some t := h
    cases hi : s.ma.inflight with
    | none => simp [accessCompletes, hi] at hcomplete
    | some a =>
      rw [accessCompletes_some hi] at hcomplete
      cases hcomplete
      have hsr : (s.completed a).sr = s.sr := rfl
      unfold State.accessHeard
      split
      · unfold State.recordWriterHears
        split
        · rw [slotJudged_frame]; exact hf
        · exact hf
      · rw [portHears_frame]; exact hf
      · unfold State.readerHears
        dsimp only
        split
        · unfold State.selectorRead State.judgePair
          split
          · exact hf
          · split
            · exact hf
            · split
              · exact hf
              · split <;> exact hf
        · unfold State.judgePair
          split <;> exact hf
        · unfold State.pageWordRead
          split <;> exact hf
        · exact hf
      · rw [loaderHears_frame]; exact hf
  | frameStart dt x =>
    obtain ⟨-, rfl⟩ := frameEdge_spec h
    have hlook : ∀ u : State, u.beginLook.sr.marks = u.sr.marks := fun u => by
      unfold State.beginLook
      split <;> rfl
    rw [hlook, frameOrNone_sr]
    cases hp : (s.takesT0 x).sr.pendingCopy with
    | none => rw [adoptPending_none hp]; exact hf
    | some a =>
      obtain ⟨p, hsr⟩ := adoptPending_sr hp
      rw [hsr]
      exact (mem_marksWith (mem_mirrorFields f)).2 (.inl hf)
  | examinationBegin =>
    simp only [eventOf, examinationBegins] at h
    split at h
    · split at h <;> cases h <;> exact hf
    · cases h
  | pageCopyDone =>
    simp only [eventOf, copyDone] at h
    split at h
    · cases h; exact hf
    · split at h
      · split at h <;> cases h <;> exact hf
      · cases h
    · cases h
  | mountSample =>
    simp only [eventOf, State.lensSampled] at h
    split at h
    · split at h <;> cases h
      · exact mem_markField.2 (.inl hf)
      · rw [laterSample_frame]; exact hf
    · cases h
  | _ => rw [event_touches h]; exact hf

/-- Settles O15: a change that the time or the event makes is marked before the end of the step, and the end of the step
takes a mark only by writing its field as it stands. -/
theorem markedFieldIsPresented : Obligations.MarkedFieldIsPresented := by
  refine ⟨fun s f fs hf hc hr hp hm => ?_, fun s b f _ => ?_, fun c s t f hmem h hc _ hne => ?_, ?_, ?_,
    by decide, by decide, by decide, by decide, by decide, by decide, by decide, rfl, rfl⟩
  · obtain ⟨w, rest, hw, hl⟩ := mirrorWords_cons s f
    rw [presentSr_mark hf hc hr hp hm hw]
    exact ⟨rfl, w, rest, hw, hl, rfl, rfl⟩
  · exact mem_markChanged
  · obtain ⟨hkeep, hchange⟩ := elapse_marks s c.elapsed f
    rcases exec_cases h with ⟨dt, hr, -⟩ | rfl | ⟨e, he, rfl⟩
    · exact absurd hr (hc dt)
    · exact .inl (hchange hne)
    · refine settle_shows (event_memoryOk he (by rw [State.memoryOk, elapse_mem]; exact hmem)) ?_
      by_cases hu : (s.elapse c.elapsed).mirrorWords f = s.mirrorWords f
      · by_cases heq : e.mirrorWords f = (s.elapse c.elapsed).mirrorWords f
        · exact .inr (.inr (by rw [heq, hu]; exact hne))
        · exact .inr (.inl heq)
      · exact .inl (event_marks he f (hchange hu))
  · intro s x one two block r item
    have hword : ∀ {n : Nat} (v : BitVec n), v.setWidth 16 = BitVec.ofNat 16 v.toNat := fun v =>
      BitVec.eq_of_toNat_eq (by simp)
    refine ⟨⟨rfl, rfl⟩, ⟨rfl, rfl⟩, ⟨rfl, rfl⟩, ⟨rfl, rfl⟩, ⟨rfl, rfl⟩, ⟨rfl, rfl⟩, ⟨rfl, rfl⟩, ⟨rfl, rfl⟩,
      ⟨rfl, rfl⟩, ⟨rfl, congrArg (fun w => [w]) (hword _)⟩, ?_⟩
    cases x <;> exact ⟨⟨rfl, rfl⟩, ⟨rfl, rfl⟩, ⟨rfl, congrArg (fun w => [w]) (hword _)⟩, ⟨rfl, rfl⟩, ⟨rfl, rfl⟩,
      ⟨rfl, rfl⟩, ⟨rfl, rfl⟩⟩
  · intro pl
    refine ⟨fun h => ?_, fun h => ?_, fun l h hl => ?_, fun l h hl => ?_⟩
    · rw [ProfileLoader.mirrorSerial, h]
    · rw [ProfileLoader.mirrorSerial, h]
    · rw [ProfileLoader.mirrorSerial, h, hl]
    · rcases h with h | h <;> rw [ProfileLoader.mirrorSerial, h, hl]

end Sys2Proof.Machine

/-! PROOFS. Bands and records: settles O24, O25, O27, O28. -/

namespace Sys2Proof.Machine

/-! ## Takes and releases (R6 to R9) -/

/-- The band in flight that the engine takes: a row of the frame's table and the snapshot as the state stands. -/
def State.takes (s : State) (f : Frame) (b : Nat) (row : BandTiming) : InFlight :=
  { frameNo := f.number, band := b, deadline := row.deadline, ts := row.ts, te := row.te,
    snapshot := s.snapshot f.settings, stale := false }

section
variable {s : State} {f : Frame} {b : Nat} {row : BandTiming}

theorem takeBand_some (h : f.table[b]? = some row) :
    s.takeBand f b = { s with be := { s.be with engine := .computing (s.takes f b row) } } := by
  simp only [State.takeBand, h]
  rfl

theorem raiseBand_idle (he : s.be.engine = .idle) (h : f.table[b]? = some row) : s.raiseBand f b =
    { s with
      ft := { s.ft with nextRelease := b + 1 }
      be := { s.be with engine := .computing (s.takes f b row) } } := by
  simp only [State.raiseBand, he, takeBand_some h]
  rfl

theorem raiseBand_busy (he : s.be.engine ≠ .idle) : s.raiseBand f b =
    { s with ft := { s.ft with nextRelease := b + 1, released := s.ft.released ++ [b] } } := by
  unfold State.raiseBand
  split
  · rename_i h; exact absurd h he
  · rfl
  · rfl

theorem nextBand_some (hf : s.ft.current = some f) (hc : f.condition = .opened)
    (hb : f.table[s.ft.nextRelease]? = some row) : s.nextBand = some (f, row) := by
  simp [State.nextBand, hf, hc, hb]

/-- An idle engine takes the oldest band that waits. -/
theorem takeWaiting_takes {rest : List Nat} (he : s.be.engine = .idle) (hf : s.ft.current = some f)
    (hr : s.ft.released = b :: rest) (h : f.table[b]? = some row) : s.takeWaiting =
    { s with
      ft := { s.ft with released := rest }
      be := { s.be with engine := .computing (s.takes f b row) } } := by
  unfold State.takeWaiting
  rw [he, hf, hr]
  exact (takeBand_some h).trans rfl

end

/-- Settles O24, by the engine's state. -/
theorem bandReleaseRaisesTheNextBand : Obligations.BandReleaseRaisesTheNextBand := by
  intro dt s f b u hf hc hb
  have hnext : u.nextBand = some (f, b) := nextBand_some hf hc hb
  refine ⟨fun hd he => ?_, fun hd he => ?_, fun hd => ?_⟩
  · refine exec_settled (c := .bandRelease dt) ?_
    change bandReleased u = _
    simp only [bandReleased, hnext, hd, if_true]
    rw [raiseBand_idle he hb]
    rfl
  · refine exec_settled (c := .bandRelease dt) ?_
    change bandReleased u = _
    simp only [bandReleased, hnext, hd, if_true]
    rw [raiseBand_busy he]
  · refine exec_of_none (c := .bandRelease dt) nofun ?_
    change bandReleased u = none
    simp [bandReleased, hnext, hd]

/-! ## The end of a computation (R8, R82) -/

/-- Settles O25, by whether a load waits in FINISHING and how it ends. -/
theorem bandComputeEndHandsOver : Obligations.BandComputeEndHandsOver := by
  intro dt s b u he r rw
  let handed : State := u.handOver b r
  have hevent : ∀ e, handed.endFinishing = e → ∃ t, exec (.bandComputeEnd dt) s = .next t ∧ Settled e t :=
    fun e h => by
      refine exec_settled (c := .bandComputeEnd dt) ?_
      change bandComputed u = _
      simp only [bandComputed, he]
      exact congrArg some h
  refine ⟨fun hl => hevent _ ?_, ?_⟩
  · change State.endFinishing (u.handOver b r) = _
    unfold State.endFinishing
    split
    · rename_i l hsome
      rw [if_neg (hl l hsome)]
      rfl
    · rfl
  · intro l hl hp finished
    have hfin : handed.endFinishing = handed.loadFinishes l := by
      have hload : handed.pl.load = some l := hl
      simp only [State.endFinishing, hload, hp, if_true]
    refine ⟨fun hm hd => hevent _ ?_, fun hu => hevent _ ?_⟩
    · have hready : handed.ms.mount = .present ∧ l.detached = false := ⟨hm, hd⟩
      rw [hfin, loadFinishes_spec, if_pos hready, if_pos hready]
      rfl
    · have hnot : ¬ (handed.ms.mount = .present ∧ l.detached = false) := by
        rintro ⟨hm, hd⟩
        rcases hu with h | h
        · rw [show handed.ms.mount = .absent from h] at hm; cases hm
        · rw [h] at hd; cases hd
      rw [hfin, loadFinishes_spec, if_neg hnot, if_neg hnot]
      rfl

/-! ## Records and closes (R148, R149, R151, R152) -/

theorem recordWrites_eq (o : OpenSlot) (r : RecordItem) :
    recordWrites o r = (recordLayout r.frameNo r.band r.result).tail.mapIdx
        (fun i w => (recordAt o.base r.band + 1 + i, w)) ++
      [(recordAt o.base r.band, tagWord r.frameNo r.band)] := by
  have hcons : recordLayout r.frameNo r.band r.result =
      tagWord r.frameNo r.band :: (recordLayout r.frameNo r.band r.result).tail := rfl
  rw [recordWrites, hcons]
  simp [wordsFrom, List.mapIdx_cons, Nat.add_assoc, Nat.add_comm 1]

theorem recordTakenUp_some {s : State} {r : RecordItem} {rest : List WorkItem} {o : OpenSlot}
    (hw : s.rw.work = .none) (hq : s.rw.queue = .record r :: rest) (ho : s.rw.openSlot = some o) :
    recordTakenUp s = some { s with rw := { s.rw with
      queue := rest, work := .recording (recordWrites o (r.takenUp s.clk.tb)) (r.takenUp s.clk.tb) } } := by
  simp [recordTakenUp, hw, hq, ho, State.withRw]

theorem slotCloses_some {s : State} {number : BitVec 32} {cut : Bool} {rest : List WorkItem} {o : OpenSlot}
    (hw : s.rw.work = .none) (hq : s.rw.queue = .ends number cut :: rest) (ho : s.rw.openSlot = some o) :
    slotCloses s = some ((s.withRw { s.rw with queue := rest }).closeSlot o cut) := by
  simp [slotCloses, hw, hq, ho]

/-- Settles O27, from the layout of a record and the words of a close. -/
theorem recordsAndClosesAreWritten : Obligations.RecordsAndClosesAreWritten := by
  refine ⟨?_, ?_⟩
  · intro dt s r rest o u hw hq ho late f r' at' long values word words
    refine exec_of_some (c := .bandRecordWrite dt) ?_
    change recordTakenUp u = _
    rw [recordTakenUp_some hw hq ho, recordWrites_eq]
    have hword : (BandFlags.word { f with late := late }) = word := bandFlags_bits _
    have hlayout : (recordLayout r.frameNo r.band r'.result).tail = word :: values := by
      rw [← hword]
      rfl
    have hwords : (recordLayout r.frameNo r.band r'.result).tail.mapIdx
        (fun i w => (recordAt o.base r.band + 1 + i, w)) ++
        [(recordAt o.base r.band, tagWord r.frameNo r.band)] = words := by
      rw [hlayout]
      rfl
    exact congrArg (fun ws => some (u.withRw { u.rw with queue := rest, work := .recording ws r' })) hwords
  · intro dt s number cut rest o u hw hq ho stretch degraded count warn flags
    refine exec_of_some (c := .slotClose dt) ?_
    change slotCloses u = _
    rw [slotCloses_some hw hq ho, State.closeSlot]
    simp only [headerFlags_bits]
    have hstretch : (u.withRw { u.rw with queue := rest }).warnStretch = stretch := by
      unfold State.warnStretch
      dsimp only [State.withRw_sr, stretch] <;> cases u.sr.inForce <;> rfl
    rw [hstretch]
    rfl

/-! ## The end of a hand-over (R10, R13, R14) -/

section
variable {s : State} {r : RecordItem} {f : Frame}

/-- The record of band B−1 ends its OPEN frame (R13). -/
theorem frameHears_complete (hc : s.ft.cutting = none) (hf : s.ft.current = some f) (ho : f.condition = .opened)
    (hn : f.number = r.frameNo) (hb : r.band + 1 = f.geom.bands) : s.frameHears r = { s with
      ft := { s.ft with current := some { f with condition := .ended } }
      rw := { s.rw with queue := s.rw.queue ++ [.ends f.number false] } } := by
  simp [State.frameHears, hc, hf, ho, hn, hb, sendNotice_spec, State.withFt]

theorem frameHears_open (hc : s.ft.cutting = none) (hf : s.ft.current = some f)
    (hb : r.band + 1 ≠ f.geom.bands) : s.frameHears r = s := by
  simp [State.frameHears, hc, hf, hb]

/-- The last record of a CUTTING frame lets its notice and the held ones go (R14). -/
theorem frameHears_cut (hc : s.ft.cutting = some r.frameNo) (hf : s.ft.current = some f) :
    s.frameHears r = { s with
      ft := { s.ft with
        current := some (if f.number = r.frameNo then { f with condition := .ended } else f),
        heldNotices := [], cutting := none }
      rw := { s.rw with queue := s.rw.queue ++ .ends r.frameNo true :: s.ft.heldNotices } } := by
  simp [State.frameHears, hc, hf, State.withFt, State.withRw]

end

/-- The engine keeps the values its band used, unless the band was taken before the profile entered READY. -/
theorem recordWritten_handing {be : BandEngine} {b : InFlight} {x : BandResult} (h : be.engine = .handingOver b x) :
    be.recordWritten = { engine := .idle, held := if b.stale then be.held else
      { pos := match x.focusUsed with | some (p, _) => some p | none => be.held.pos,
        u := match x.focusUsed with | some (_, c) => some c | none => be.held.u,
        a := match x.irisUsed with | some c => some c | none => be.held.a,
        z := match x.zoomUsed with | some c => some c | none => be.held.z } } := by
  simp only [BandEngine.recordWritten, h, Held.update]
  cases x.focusUsed <;> cases x.irisUsed <;> cases x.zoomUsed <;> rfl

/-- Settles O28: the slot and the engine first, then what the frame hears, then the band that waits. -/
theorem recordWrittenReturnsTheEngine : Obligations.RecordWrittenReturnsTheEngine := by
  intro dt s r b x o f u hw ho he hf old held taken slot ends
  let written : State := { u with
    be := { engine := .idle, held := held }
    rw := { u.rw with work := .none, openSlot := some slot } }
  have hevent : ∀ e, (written.frameHears r).takeWaiting = e →
      ∃ t, exec (.recordWritten dt) s = .next t ∧ Settled e t := fun e h => by
    refine exec_settled (c := .recordWritten dt) ?_
    change recordDone u = _
    have hbe : u.be.recordWritten = { engine := .idle, held := held } := by
      refine (recordWritten_handing he).trans ?_
      simp only [held, old] <;> cases x.focusUsed <;> cases x.irisUsed <;> cases x.zoomUsed <;> rfl
    simp only [recordDone, hw, ho]
    rw [← h]
    exact congrArg (fun be => some ((({ written with be := be } : State).frameHears r).takeWaiting)) hbe
  have hends : ∀ ft notices, written.frameHears r = { written with
        ft := ft, rw := { written.rw with queue := u.rw.queue ++ notices } } →
      ft.released = u.ft.released → (∃ g, ft.current = some g ∧ g.number = f.number ∧ g.table = f.table ∧
        g.settings = f.settings) → ends ft notices := by
    intro ft notices hh hr hg
    obtain ⟨g, hcur, hnum, htab, hset⟩ := hg
    refine ⟨fun hnil => hevent _ ?_, fun next rest row hrel hrow => hevent _ ?_⟩
    · rw [hh, takeWaiting_none _ (by change ft.released = []; rw [hr]; exact hnil)]
    · rw [hh, takeWaiting_takes (f := g) (b := next) (row := row) (rest := rest) rfl hcur
        (by change ft.released = _; rw [hr]; exact hrel) (by rw [htab]; exact hrow)]
      simp only [State.takes, State.snapshot, hnum, hset]
      rfl
  refine ⟨fun hn hopen hc => ⟨fun hb hrel => ?_, fun hb => ?_⟩, fun hc => ?_⟩
  · exact hends _ _ (frameHears_complete (s := written) hc hf hopen hn hb) rfl ⟨_, rfl, rfl, rfl, rfl⟩
  · refine hends _ _ ?_ rfl ⟨f, hf, rfl, rfl, rfl⟩
    rw [frameHears_open (s := written) hc hf hb, List.append_nil]
  · refine hends _ _ (frameHears_cut (s := written) hc hf) rfl ⟨_, rfl, ?_⟩
    split <;> exact ⟨rfl, rfl, rfl⟩

end Sys2Proof.Machine

/-! PROOFS. A frame begins: settles O18. -/

namespace Sys2Proof.Machine

/-! ## Cuts by what they depend on -/

/-- A cut hangs on the frame, the notices and whether the engine holds a band of the frame. -/
theorem cutFrame_congr {s t : State} {x : Time} (hft : t.ft = { s.ft with t0 := x })
    (hq : t.rw.queue = s.rw.queue) (he : ∀ n, t.be.engine.holds n = s.be.engine.holds n) :
    t.cutFrame.ft = { s.cutFrame.ft with t0 := x } ∧ t.cutFrame.rw.queue = s.cutFrame.rw.queue := by
  unfold State.cutFrame
  have hcur : t.ft.current = s.ft.current := by rw [hft]
  have hcut : t.ft.cutting = s.ft.cutting := by rw [hft]
  rw [hcur]
  cases s.ft.current with
  | none => exact ⟨hft, hq⟩
  | some f =>
    dsimp only
    rw [he f.number]
    split
    · split
      · exact ⟨by rw [hft]; rfl, hq⟩
      · simp only [sendNotice_spec, State.withFt, hcut]
        split
        · exact ⟨by rw [hft], hq⟩
        · exact ⟨by rw [hft], by rw [hq]⟩
    · exact ⟨hft, hq⟩

/-! ## The bands due at once (R6) -/

section
variable {f : Frame} {row : Nat → BandTiming} {bands : Nat} (htable : f.table = (List.range bands).map row)
include htable

theorem table_get {b : Nat} (hb : b < bands) : f.table[b]? = some (row b) := by
  simp [htable, hb]

/-- A busy engine leaves every band that is due in the release list. -/
theorem raiseDue_busy (upTo : Time) (n : Nat) {s : State} (hf : s.ft.current = some f) (ho : f.condition = .opened)
    (hn : s.ft.nextRelease + n = bands) (he : s.be.engine ≠ .idle) :
    ∃ d ≤ n, (s.raiseDue upTo n).ft.nextRelease = s.ft.nextRelease + d ∧
      (∀ b, s.ft.nextRelease ≤ b → b < s.ft.nextRelease + d → reached upTo (row b).release = true) ∧
      (s.ft.nextRelease + d < bands → reached upTo (row (s.ft.nextRelease + d)).release = false) ∧
      (s.raiseDue upTo n).be.engine = s.be.engine ∧
      (s.raiseDue upTo n).ft.released = s.ft.released ++ List.range' s.ft.nextRelease d := by
  induction n generalizing s with
  | zero => exact ⟨0, le_rfl, rfl, fun b h1 h2 => by omega, fun h => by omega, rfl, by simp [State.raiseDue]⟩
  | succ n ih =>
    have hlt : s.ft.nextRelease < bands := by omega
    have hnext := nextBand_some hf ho (table_get htable hlt)
    by_cases hd : reached upTo (row s.ft.nextRelease).release = true
    · have hstep : s.raiseDue upTo (n + 1) = (s.raiseBand f s.ft.nextRelease).raiseDue upTo n := by
        simp only [State.raiseDue, hnext, hd, if_true]
      rw [raiseBand_busy he] at hstep
      obtain ⟨d, hle, hr, hall, hnot, heng, hrel⟩ := ih (s := { s with
        ft := { s.ft with
          nextRelease := s.ft.nextRelease + 1, released := s.ft.released ++ [s.ft.nextRelease] } })
        hf (by dsimp only; omega) he
      rw [hstep]
      dsimp only at hr hall hnot heng hrel
      refine ⟨d + 1, by omega, by rw [hr]; omega, fun b h1 h2 => ?_, fun h => ?_, heng, ?_⟩
      · rcases Nat.eq_or_lt_of_le h1 with rfl | h1
        · exact hd
        · exact hall b h1 (by omega)
      · rw [show s.ft.nextRelease + (d + 1) = s.ft.nextRelease + 1 + d by omega] at h ⊢
        exact hnot h
      · rw [hrel, List.range'_succ, List.append_assoc]
        rfl
    · refine ⟨0, by omega, ?_, fun b h1 h2 => by omega, fun _ => by simpa using hd, ?_, ?_⟩ <;>
        simp [State.raiseDue, hnext, hd]

/-- From the frame's begin on: an idle engine takes band 0 when it is due at once, and the others due wait. -/
theorem raiseDue_begins (upTo : Time) {s : State} (hf : s.ft.current = some f) (ho : f.condition = .opened)
    (hn : s.ft.nextRelease = 0) (hrel : s.ft.released = []) :
    ∃ k, (s.raiseDue upTo bands).ft.nextRelease = k ∧ k ≤ bands ∧
      (∀ b < k, reached upTo (row b).release = true) ∧
      (k < bands → reached upTo (row k).release = false) ∧
      (k = 0 → (s.raiseDue upTo bands).be.engine = s.be.engine ∧ (s.raiseDue upTo bands).ft.released = []) ∧
      (s.be.engine ≠ .idle → (s.raiseDue upTo bands).be.engine = s.be.engine ∧
        (s.raiseDue upTo bands).ft.released = List.range k) ∧
      (s.be.engine = .idle → 0 < k → (s.raiseDue upTo bands).ft.released = (List.range k).tail ∧
        (s.raiseDue upTo bands).be.engine = .computing (s.takes f 0 (row 0))) := by
  by_cases he : s.be.engine = .idle
  · cases bands with
    | zero => exact ⟨0, hn, le_rfl, nofun, nofun, fun _ => ⟨rfl, hrel⟩, fun h => absurd he h, nofun⟩
    | succ m =>
      have hrow : f.table[s.ft.nextRelease]? = some (row 0) := by
        rw [hn]; exact table_get htable (Nat.succ_pos m)
      have hnext := nextBand_some hf ho hrow
      by_cases hd : reached upTo (row 0).release = true
      · have hstep : s.raiseDue upTo (m + 1) = (s.raiseBand f s.ft.nextRelease).raiseDue upTo m := by
          simp only [State.raiseDue, hnext, hd, if_true]
        rw [raiseBand_idle he hrow] at hstep
        obtain ⟨d, hle, hr, hall, hnot, heng, hrest⟩ := raiseDue_busy htable upTo m (s := { s with
          ft := { s.ft with nextRelease := s.ft.nextRelease + 1 }
          be := { s.be with engine := .computing (s.takes f s.ft.nextRelease (row 0)) } })
          hf ho (by dsimp only; omega) nofun
        rw [hstep]
        dsimp only at hr hall hnot heng hrest
        rw [hn] at hr hall hnot heng hrest ⊢
        refine ⟨0 + 1 + d, hr, by omega, fun b hb => ?_, hnot, fun h => by omega, fun h => absurd he h,
          fun _ _ => ⟨?_, heng⟩⟩
        · rcases Nat.eq_zero_or_pos b with rfl | hb0
          · exact hd
          · exact hall b hb0 hb
        · rw [hrest, hrel, List.range_eq_range', show 0 + 1 + d = d + 1 by omega, List.range'_succ]
          rfl
      · have hstay : s.raiseDue upTo (m + 1) = s := by
          simp [State.raiseDue, hnext, hd]
        rw [hstay]
        exact ⟨0, hn, by omega, nofun, fun _ => by simpa using hd, fun _ => ⟨rfl, hrel⟩, fun h => absurd he h, nofun⟩
  · obtain ⟨d, hle, hr, hall, hnot, heng, hrest⟩ := raiseDue_busy htable upTo bands hf ho (by omega) he
    rw [hn, Nat.zero_add] at hr hnot
    rw [hn, Nat.zero_add] at hall
    rw [hn, hrel, List.nil_append, ← List.range_eq_range'] at hrest
    exact ⟨d, hr, hle, fun b hb => hall b (Nat.zero_le b) hb, hnot,
      fun h0 => ⟨heng, by rw [hrest, h0]; rfl⟩, fun _ => ⟨heng, hrest⟩, fun h => absurd h he⟩

end

/-! ## What a settled state keeps of the effect -/

section
variable {e t : State} (h : Settled e t)
include h

theorem Settled.queue : t.rw.queue = e.rw.queue := by
  rcases h.records with ⟨hrw, -⟩ | ⟨_, _, -, -, -, hrw, -⟩ <;> rw [hrw]

theorem Settled.exam : t.sr.exam = e.sr.exam := by rw [h.sr]

theorem Settled.profile : t.pl.st = e.pl.st ∧ t.pl.store = e.pl.store := by rw [h.pl]; exact ⟨rfl, rfl⟩

end

/-! ## A frame start begins a frame (R3, R16, R187) -/

/-- The frame that begins. -/
def Adopted.frame (a : Adopted) (number : BitVec 32) (t0 : Time) : Frame :=
  { number := number, t0 := t0, geom := a.settings.geometry, table := bandTable a.settings.geometry t0,
    settings := a.settings, condition := .opened }

/-- Its begin notice. -/
def Adopted.notice (a : Adopted) (number : BitVec 32) (t0 : Time) (reset : Bool) : BeginNotice :=
  { number := number, t0 := t0, bands := a.settings.bands, ringBase := a.settings.ringBase,
    ringSlots := a.settings.ringSlots, seq := a.seq, ringReset := reset }

/-- The state in which the due bands of a frame that begins are raised. -/
def State.framed (s : State) (a : Adopted) (reset : Bool) : State :=
  (s.cutFrame.withFt { s.cutFrame.ft with
    frameNo := s.ft.frameNo + 1, nextRelease := 0, released := [],
    current := some (a.frame (s.ft.frameNo + 1) s.ft.t0) }).sendNotice
    (.opens (a.notice (s.ft.frameNo + 1) s.ft.t0 reset))

theorem beginFrame_eq (s : State) (a : Adopted) (reset : Bool) :
    s.beginFrame a reset = (s.framed a reset).raiseDue s.ft.t0 a.settings.bands := by
  simp only [State.beginFrame, State.framed, cutFrame_frameNo, cutFrame_t0]
  rfl

/-- What the begin of a frame does before its bands are raised. -/
theorem framed_spec (s : State) (a : Adopted) (reset : Bool) : s.framed a reset = { s with
    ft := { s.cutFrame.ft with
      frameNo := s.ft.frameNo + 1, nextRelease := 0, released := [],
      current := some (a.frame (s.ft.frameNo + 1) s.ft.t0),
      heldNotices := if s.cutFrame.ft.cutting.isSome then
        s.cutFrame.ft.heldNotices ++ [.opens (a.notice (s.ft.frameNo + 1) s.ft.t0 reset)]
        else s.cutFrame.ft.heldNotices }
    rw := { s.rw with queue := if s.cutFrame.ft.cutting.isSome then s.cutFrame.rw.queue
      else s.cutFrame.rw.queue ++ [.opens (a.notice (s.ft.frameNo + 1) s.ft.t0 reset)] } } := by
  have hc := cutFrame_frame s
  rw [State.framed, sendNotice_spec]
  cases h : s.cutFrame.ft.cutting with
  | none =>
    simp only [State.withFt, h, Option.isSome_none, Bool.false_eq_true, if_false]
    generalize s.cutFrame = k at *
    rw [hc]
  | some x =>
    simp only [State.withFt, h, Option.isSome_some, if_true]
    generalize s.cutFrame = k at *
    rw [hc]

/-- The state that a frame start begins its frame in: T0 has been taken, settings are in force, and nothing that a cut
or the engine hangs on has moved, but for marks of the engine's own band. -/
structure BeginsFrom (u served : State) (a : Adopted) (h : Time) (v : State) : Prop where
  ft : v.ft = { u.ft with t0 := u.clk.tb - h }
  rw : v.rw = u.rw
  inForce : v.sr.inForce = some a
  exam : v.sr.exam = u.sr.exam
  be : v.be = served.be
  holds : ∀ n, served.be.engine.holds n = u.be.engine.holds n

/-- A frame start with settings in force: RUNNING, the frame begun, its bands raised, the watchdog restarted. -/
theorem frameOrNone_some {s : State} {a : Adopted} (old : State) (h : s.sr.inForce = some a) :
    s.frameOrNone old =
      let w := (s.withAl { s.al with part := .running }).framed a
        (old.al.part == .armed || ringChanged old.settings a.settings)
      let r := w.raiseDue s.ft.t0 a.settings.bands
      { r with ft := { r.ft with watchdog := some (s.ft.t0 + micros a.settings.frameTimeout) } } := by
  have ht0 : ∀ w : State, w.ft.t0 = s.ft.t0 → (w.raiseDue s.ft.t0 a.settings.bands).ft.t0 = s.ft.t0 :=
    fun w hw => by rw [raiseDue_frame]; exact hw
  simp only [State.frameOrNone, h, beginFrame_eq]
  rw [State.withAl_ft, ht0 _ (by rw [framed_spec]; exact cutFrame_t0 _)]
  rfl

/-- The frame start ends with the frame begun: what the settled state and the effect hold. -/
theorem frameBegins_of {u served v t : State} {a : Adopted} {h : Time} (hv : BeginsFrom u served a h v)
    (ht : Settled (v.frameOrNone u).beginLook t) :
    FrameBegins u served a h (u.al.part == .armed || ringChanged u.settings a.settings) t := by
  let reset := u.al.part == .armed || ringChanged u.settings a.settings
  let p := v.withAl { v.al with part := .running }
  have ht0 : v.ft.t0 = u.clk.tb - h := by rw [hv.ft]
  have hnumber : v.ft.frameNo = u.ft.frameNo := by rw [hv.ft]
  obtain ⟨hcut, hqueue⟩ := cutFrame_congr (s := u) (t := p) hv.ft (by rw [← hv.rw]; rfl)
    (fun n => by rw [← hv.holds n, ← hv.be]; rfl)
  have hw := framed_spec p a reset
  have hf := frameOrNone_some u hv.inForce
  have hraised := raiseDue_frame (p.framed a reset) v.ft.t0 a.settings.bands
  have hlook := beginLook_frame (v.frameOrNone u)
  obtain ⟨k, hk, hle, hall, hnot, hzero, hbusy, hidle⟩ := raiseDue_begins (f := a.frame (v.ft.frameNo + 1) v.ft.t0)
    (row := bandTiming a.settings.geometry v.ft.t0) (bands := a.settings.bands) rfl v.ft.t0
    (s := p.framed a reset) (by rw [hw]; rfl) rfl (by rw [hw]) (by rw [hw])
  dsimp only at hf
  change v.frameOrNone u = { (p.framed a reset).raiseDue v.ft.t0 a.settings.bands with
    ft := { ((p.framed a reset).raiseDue v.ft.t0 a.settings.bands).ft with
      watchdog := some (v.ft.t0 + micros a.settings.frameTimeout) } } at hf
  generalize (p.framed a reset).raiseDue v.ft.t0 a.settings.bands = r at *
  have htakes : (p.framed a reset).takes (a.frame (v.ft.frameNo + 1) v.ft.t0) 0
      (bandTiming a.settings.geometry v.ft.t0 0) = p.takes (a.frame (v.ft.frameNo + 1) v.ft.t0) 0
      (bandTiming a.settings.geometry v.ft.t0 0) := by rw [hw]; rfl
  have hbe : (p.framed a reset).be = served.be := by rw [hw]; exact hv.be
  rw [htakes, hbe] at hidle
  rw [hbe] at hzero hbusy
  rw [hw] at hraised
  have hft : t.ft = { r.ft with watchdog := some (v.ft.t0 + micros a.settings.frameTimeout) } := by
    rw [ht.ft, hlook, hf]
  have hr : r.ft = { p.cutFrame.ft with
      frameNo := u.ft.frameNo + 1, nextRelease := r.ft.nextRelease, released := r.ft.released,
      current := some (a.frame (u.ft.frameNo + 1) (u.clk.tb - h)),
      heldNotices := if u.cutFrame.ft.cutting.isSome then
        u.cutFrame.ft.heldNotices ++ [.opens (a.notice (u.ft.frameNo + 1) (u.clk.tb - h) reset)]
        else u.cutFrame.ft.heldNotices } := by
    have hheld : p.cutFrame.ft.heldNotices = u.cutFrame.ft.heldNotices := by rw [hcut]
    have hcutting : p.cutFrame.ft.cutting = u.cutFrame.ft.cutting := by rw [hcut]
    rw [← ht0, ← hnumber, ← hheld, ← hcutting]
    exact congrArg State.ft hraised
  have hrw : t.rw.queue = if u.cutFrame.ft.cutting.isSome then u.cutFrame.rw.queue
      else u.cutFrame.rw.queue ++ [.opens (a.notice (u.ft.frameNo + 1) (u.clk.tb - h) reset)] := by
    have hcutting : p.cutFrame.ft.cutting = u.cutFrame.ft.cutting := by rw [hcut]
    rw [ht.queue, hlook, hf, ← ht0, ← hnumber, ← hcutting, ← hqueue]
    exact congrArg (fun z => z.rw.queue) hraised
  have hcutting : p.cutFrame.ft.cutting = u.cutFrame.ft.cutting := by rw [hcut]
  have hexam : t.sr.exam = (v.frameOrNone u).beginLook.sr.exam := ht.exam
  have hsr : (v.frameOrNone u).sr = v.sr := frameOrNone_sr v u
  have hno : (v.frameOrNone u).ft.frameNo = u.ft.frameNo + 1 := by rw [hf, hr]
  have hbeT : t.be = r.be := by rw [ht.be, hlook, hf]
  have hlive : t.axes = p.axes ∧ t.pl.st = p.pl.st ∧ t.pl.store = p.pl.store ∧ t.ms = p.ms := by
    have hpl : r.pl = p.pl := (congrArg State.pl hraised :)
    have hax : r.axes = p.axes := (congrArg State.axes hraised :)
    have hms : r.ms = p.ms := (congrArg State.ms hraised :)
    rw [ht.axes, ht.profile.1, ht.profile.2, ht.ms, hlook, hf, ← hpl, ← hax, ← hms]
    exact ⟨rfl, rfl, rfl, rfl⟩
  rw [ht0] at hall hnot hidle
  refine ⟨?_, ?_, ?_, ?_, ?_, ?_, fun hc => ⟨?_, ?_⟩, fun hc => ⟨?_, ?_⟩, fun hx => ?_, fun hx => ?_,
    k, ?_, hle, hall, hnot, fun h0 => ?_, fun hb => ?_, fun hi h0 => ?_⟩
  · rw [ht.records.part, hlook, hf]
    exact congrArg (fun z => z.al.part) hraised
  · rw [hft, hr, ← ht0]
    exact cutFrame_t0 p
  · rw [hft, hr]
  · rw [hft, ht0]
  · rw [hft, hr]
    rfl
  · rw [hft, hr, ← hcutting]
  · rw [hrw, hc]
    rfl
  · rw [hft, hr, hc]
    rfl
  · rw [hrw, Option.isSome_iff_ne_none.2 hc]
    rfl
  · rw [hft, hr, Option.isSome_iff_ne_none.2 hc]
    rfl
  · rw [hexam, State.beginLook, hsr, hv.exam, hx, hno]
    rfl
  · rw [hexam, ← hv.exam, State.beginLook, hsr]
    have hx' : v.sr.exam ≠ .none := by rw [hv.exam]; exact hx
    split
    · rename_i hnone; exact absurd hnone hx'
    · rw [hsr]
  · rw [hft]; exact hk
  · rw [hbeT, hft]; exact hzero h0
  · rw [hbeT, hft]; exact hbusy hb
  · obtain ⟨hrel, heng⟩ := hidle hi h0
    refine ⟨by rw [hft]; exact hrel, ?_⟩
    rw [hbeT, heng, hnumber, hlive.1, hlive.2.1, hlive.2.2.1, hlive.2.2.2, ← hv.be]
    rfl

/-- All that the begin of a frame can move. -/
theorem frameOrNone_begun {s : State} {a : Adopted} (old : State) (h : s.sr.inForce = some a) :
    s.frameOrNone old = { s with
      ft := (s.frameOrNone old).ft
      be := { s.be with engine := (s.frameOrNone old).be.engine }
      rw := { s.rw with queue := (s.frameOrNone old).rw.queue }
      al := { s.al with part := .running } } := by
  rw [frameOrNone_some old h]
  dsimp only
  rw [raiseDue_frame, framed_spec]
  rfl

theorem ringChanged_self (c : Settings) : ringChanged (some c) c = false := by
  simp [ringChanged]

/-- An edge that begins a frame is recognised. -/
theorem frameEdge_of {u : State} {h : Time} (hr : u.clk.resetn = true) (hp : u.al.part.live = true)
    (h1 : h.toNat ≤ 1) (h2 : h.toNat ≤ u.fi.since) :
    u.frameEdge h = some ((u.takesT0 h).adoptPending.frameOrNone u).beginLook := by
  have hrec := (frameRecognised_iff u h).2 ⟨h1, h2⟩
  simp only [State.frameEdge, hr, hp, hrec, Bool.and_self, if_true]
  rfl

/-- Settles O18: with no pending copy the state that begins the frame is the one that takes T0. -/
theorem frameStartBeginsAFrame : Obligations.FrameStartBeginsAFrame := by
  intro dt h s a u hr hp h1 h2 hc hf
  have hlive : u.al.part.live = true := by rcases hp with hp | hp | hp <;> rw [hp] <;> rfl
  have hedge := frameEdge_of (u := u) hr hlive h1 h2
  rw [adoptPending_none (s := u.takesT0 h) hc] at hedge
  have hv : BeginsFrom u u a h (u.takesT0 h) := ⟨rfl, rfl, hf, rfl, rfl, fun _ => rfl⟩
  obtain ⟨t, hx, ht⟩ := exec_settled (c := .frameStart dt h) (s := s) hedge
  have hreset : (u.al.part == .armed || ringChanged u.settings a.settings) = (u.al.part == .armed) := by
    rw [State.settings, hf, Option.map_some, ringChanged_self, Bool.or_false]
  have hbegins := frameBegins_of hv ht
  rw [hreset] at hbegins
  have hbegun := frameOrNone_begun (s := u.takesT0 h) u hf
  have hlook := beginLook_frame ((u.takesT0 h).frameOrNone u)
  have hsr := (beginLook_settings ((u.takesT0 h).frameOrNone u)).1
  rw [frameOrNone_sr] at hsr
  generalize ((u.takesT0 h).frameOrNone u).beginLook = e at *
  generalize (u.takesT0 h).frameOrNone u = v at *
  rw [hbegun] at hlook
  refine ⟨t, hx, hbegins, ?_, ?_, ?_, ?_, ?_, ?_, ?_, ?_⟩
  · rw [ht.axes, hlook]; rfl
  · rw [ht.lc, hlook]; rfl
  · rw [ht.ms, hlook]; rfl
  · rw [ht.sr]; exact hsr
  · rw [ht.pl, hlook]; rfl
  · rw [ht.be, hlook]; rfl
  · rw [ht.fi, hlook]; rfl
  · have hrec := ht.records
    have hq := ht.queue
    rw [hlook] at hrec hq
    rw [hq]
    exact hrec

end Sys2Proof.Machine

/-! PROOFS. Settings come in force: settles O19. -/

namespace Sys2Proof.Machine

/-! ## Causes raised in any order (R188) -/

namespace Attention

theorem raise_comm (al : Attention) (c d : Cause) : (al.raise c).raise d = (al.raise d).raise c := by
  simp only [raise, judge, BitVec.or_assoc, BitVec.or_comm c.mask]

theorem raise_same (al : Attention) (c : Cause) : (al.raise c).raise c = al.raise c := by
  simp only [raise, judge, BitVec.or_assoc, BitVec.or_self]

theorem raise_withPart (al : Attention) (p : PartState) (c : Cause) :
    ({ al with part := p } : Attention).raise c = { al.raise c with part := p } := rfl

theorem raiseWhen_raise (al : Attention) (b : Bool) (c d : Cause) :
    (al.raiseWhen b c).raise d = (al.raise d).raiseWhen b c := by
  cases b
  · rfl
  · exact al.raise_comm c d

theorem raiseWhen_twice (al : Attention) (a b : Bool) (c : Cause) :
    (al.raiseWhen a c).raiseWhen b c = al.raiseWhen (a || b) c := by
  cases a <;> cases b
  · rfl
  · rfl
  · rfl
  · exact al.raise_same c

/-- A cause raised when there is one. -/
def raiseSome (al : Attention) : Option Cause → Attention
  | some c => al.raise c
  | none => al

theorem raiseSome_raise (al : Attention) (o : Option Cause) (d : Cause) :
    (al.raise d).raiseSome o = (al.raiseSome o).raise d := by
  cases o with
  | none => rfl
  | some c => exact al.raise_comm d c

theorem raiseWhen_raiseSome (al : Attention) (o : Option Cause) (b : Bool) (d : Cause) :
    (al.raiseWhen b d).raiseSome o = (al.raiseSome o).raiseWhen b d := by
  cases o with
  | none => rfl
  | some c => exact al.raiseWhen_raise b d c

theorem raiseWhen_withPart (al : Attention) (p : PartState) (b : Bool) (c : Cause) :
    ({ al with part := p } : Attention).raiseWhen b c = { al.raiseWhen b c with part := p } := by
  cases b <;> rfl

end Attention

/-! ## Axes in and out of LOST -/

theorem lostCrossed_iff (r r' : AxisRec) : lostCrossed r r' = true ↔ ¬ (r.st = .lost ↔ r'.st = .lost) := by
  unfold lostCrossed
  by_cases h : r.st = .lost <;> by_cases h' : r'.st = .lost <;> simp [h, h']

theorem Axes.crossed_iff (a b : Axes) :
    a.crossed b = true ↔ ∃ x, ¬ ((a.get x).st = .lost ↔ (b.get x).st = .lost) := by
  simp only [Axes.crossed, Bool.or_eq_true, lostCrossed_iff]
  constructor
  · rintro ((h | h) | h)
    exacts [⟨.focus, h⟩, ⟨.iris, h⟩, ⟨.zoom, h⟩]
  · rintro ⟨x, h⟩
    cases x
    exacts [.inl (.inl h), .inl (.inr h), .inr h]

theorem someTrackLost_iff (s : State) :
    s.someTrackLost = true ↔ ∃ x, s.mode x = .track ∧ (s.axes.get x).st = .lost := by
  simp only [State.someTrackLost, State.tracks, Bool.or_eq_true, Bool.and_eq_true, beq_iff_eq]
  constructor
  · rintro ((h | h) | h)
    exacts [⟨.focus, h⟩, ⟨.iris, h⟩, ⟨.zoom, h⟩]
  · rintro ⟨x, h⟩
    cases x
    exacts [.inl (.inl h), .inl (.inr h), .inr h]

theorem restartedAxes_get (s : State) (b : Blanking) (x : Axis) :
    (s.restartedAxes b).get x = restartedAxis (s.tracks x) b (s.axes.get x) := by
  cases x <;> rfl

/-- Ending a MARK sets nothing but the last completion of a TRACK axis. -/
theorem markBroken_get (s : State) (m : Option (Axis × Nat)) (axes : Axes) (x : Axis) :
    ∃ c, (s.markBroken m axes).get x = { axes.get x with lastCompletion := c } ∧
      (s.tracks x = false → c = (axes.get x).lastCompletion) := by
  unfold State.markBroken
  split
  · rename_i y n
    split
    · rename_i h
      by_cases hxy : x = y
      · subst hxy
        exact ⟨.broken, Axes.get_set_same _ _ _, fun k => absurd h.1 (by rw [k]; exact nofun)⟩
      · exact ⟨_, Axes.get_set_other _ _ _ _ hxy, fun _ => rfl⟩
    · exact ⟨_, rfl, fun _ => rfl⟩
  · exact ⟨_, rfl, fun _ => rfl⟩

theorem marksBroken_get (s : State) (axes : Axes) (x : Axis) :
    ∃ c, (s.marksBroken axes).get x = { axes.get x with lastCompletion := c } ∧
      (s.tracks x = false → c = (axes.get x).lastCompletion) := by
  obtain ⟨c, hc, hk⟩ := markBroken_get s (s.lc.trans.map (fun m => (m.axis, m.unit))) axes x
  obtain ⟨d, hd, hl⟩ := markBroken_get s s.lc.waiting
    (s.markBroken (s.lc.trans.map (fun m => (m.axis, m.unit))) axes) x
  rw [hc] at hd hl
  exact ⟨d, hd, fun h => (hl h).trans (hk h)⟩

/-! ## A changed rate (R110) -/

/-- The links that are sent a break, or lengthen it, when the rate changes. -/
def Link.breaksForRate (lc : Link) : Bool :=
  lc.st == .idle || lc.st == .sending || lc.st == .awaitReply || lc.st == .receiving || lc.st == .breakTx

/-- A link on which no break is driven, IDLE or in a frame. -/
def Link.Active (lc : Link) : Prop :=
  lc.st = .idle ∨ lc.st = .sending ∨ lc.st = .awaitReply ∨ lc.st = .receiving

theorem breakForRate_sent {s : State} (h : s.lc.Active ∨ (s.lc.st = .breakTx ∧ s.lc.breakEnd = none)) :
    s.breakForRate = s.sendBreak := by
  rcases h with (h | h | h | h) | ⟨h, hb⟩
  iterate 4 simp [State.breakForRate, h]
  simp [State.breakForRate, h, hb]

theorem breakForRate_lengthened {s : State} (h : s.lc.st = .breakTx) (hb : s.lc.breakEnd ≠ none) :
    s.breakForRate = { s with
      lc := { s.lc with breakEnd := some (s.clk.tb + s.bits 40) }
      axes := s.restartedAxes (.pending s.blankTime), al := s.al.raiseWhen s.someTrackLost .axis } := by
  have hsome : s.lc.breakEnd.isSome = true := Option.isSome_iff_ne_none.2 hb
  simp only [State.breakForRate, h, hsome, if_true]
  rw [axesBreakBegin_spec]
  rfl

theorem breakForRate_owed {s : State} (h : s.lc.st = .breakRx ∨ s.lc.st = .stuck) :
    s.breakForRate = { s with lc := { s.lc with owed := true } } := by
  rcases h with h | h <;> simp [State.breakForRate, h, State.withLc]

theorem breakForRate_off {s : State} (h : s.lc.st = .off) : s.breakForRate = s := by
  simp [State.breakForRate, h]

theorem Link.st_cases (lc : Link) :
    lc.Active ∨ lc.st = .breakTx ∨ (lc.st = .breakRx ∨ lc.st = .stuck) ∨ lc.st = .off := by
  unfold Link.Active
  cases lc.st <;> simp

theorem Link.breaksForRate_iff (lc : Link) : lc.breaksForRate = true ↔ lc.Active ∨ lc.st = .breakTx := by
  simp only [Link.breaksForRate, Link.Active, Bool.or_eq_true, beq_iff_eq, or_assoc]

/-- What a changed rate moves: the axes, the link, and AXIS when a TRACK axis was LOST. -/
theorem breakForRate_spec (s : State) : s.breakForRate = { s with
    lc := s.breakForRate.lc, axes := s.breakForRate.axes
    al := s.al.raiseWhen (s.lc.breaksForRate && s.someTrackLost) .axis } := by
  have hb := s.lc.breaksForRate_iff
  rcases s.lc.st_cases with h | h | h | h
  · rw [hb.2 (.inl h), Bool.true_and, breakForRate_sent (.inl h), sendBreak_spec]
  · rw [hb.2 (.inr h), Bool.true_and]
    by_cases hn : s.lc.breakEnd = none
    · rw [breakForRate_sent (.inr ⟨h, hn⟩), sendBreak_spec]
    · rw [breakForRate_lengthened h hn]
  · have hno : s.lc.breaksForRate = false := by rcases h with h | h <;> simp [Link.breaksForRate, h]
    rw [hno, Bool.false_and, breakForRate_owed h]
    rfl
  · have hno : s.lc.breaksForRate = false := by simp [Link.breaksForRate, h]
    rw [hno, Bool.false_and, breakForRate_off h]
    rfl

/-- A break that begins or goes on restarts every TRACK axis and leaves the others. -/
theorem breakForRate_get {s : State} (h : s.lc.Active ∨ s.lc.st = .breakTx) (x : Axis) :
    ∃ c, s.breakForRate.axes.get x =
        { restartedAxis (s.tracks x) (.pending s.blankTime) (s.axes.get x) with lastCompletion := c } ∧
      (s.tracks x = false → c = (s.axes.get x).lastCompletion) := by
  by_cases hsent : s.lc.Active ∨ (s.lc.st = .breakTx ∧ s.lc.breakEnd = none)
  · rw [breakForRate_sent hsent, sendBreak_spec]
    obtain ⟨c, hc, hk⟩ := marksBroken_get s (s.restartedAxes (.pending s.blankTime)) x
    rw [restartedAxes_get] at hc hk
    exact ⟨c, hc, fun ht => by rw [hk ht, ht]; rfl⟩
  · obtain ⟨hst, hn⟩ : s.lc.st = .breakTx ∧ s.lc.breakEnd ≠ none := by tauto
    rw [breakForRate_lengthened hst hn]
    exact ⟨_, restartedAxes_get _ _ _, fun ht => by rw [ht]; rfl⟩

/-! ## The STOPPED timer (R109) -/

theorem startTimer_lc (s : State) : s.startTimer.lc = { s.lc with tick := s.startTimer.lc.tick } := by
  unfold State.startTimer; split <;> rfl

theorem startTimer_stopped {s : State} (h : s.lc.Active) (ht : s.lc.tick = none) :
    s.startTimer.lc.tick = s.nextTick := by
  rcases h with h | h | h | h <;> simp [State.startTimer, h, ht]

theorem startTimer_running {s : State} (h : s.lc.tick ≠ none) : s.startTimer.lc.tick = s.lc.tick := by
  unfold State.startTimer
  split <;> first | rfl | exact absurd ‹_› h

/-- Out of an active link the timer stands. -/
theorem startTimer_inactive {s : State} (h : ¬ s.lc.Active) : s.startTimer = s := by
  unfold State.startTimer
  split
  · exact absurd (.inl ‹_›) h
  · exact absurd (.inr (.inl ‹_›)) h
  · exact absurd (.inr (.inr (.inl ‹_›))) h
  · exact absurd (.inr (.inr (.inr ‹_›))) h
  · rfl

/-! ## The Profile Loader's decision hangs on the loader, the mount and the engine -/

/-- What the Profile Loader's decision at an adoption leaves: its own state, the engine, whether its request is
withdrawn, and the one cause it may raise. -/
structure Decision where
  pl : ProfileLoader
  be : BandEngine
  withdrawn : Bool
  cause : Option Cause

def State.decided (s : State) (d : Decision) : State := { s with
  pl := d.pl, be := d.be, ma := if d.withdrawn then { s.ma with reqPl := none } else s.ma
  al := s.al.raiseSome d.cause }

theorem decided_stands {s v : State} (hp : v.pl = s.pl) (hb : v.be = s.be) :
    v = v.decided { pl := s.pl, be := s.be, withdrawn := false, cause := none } := by
  rw [← hp, ← hb]; rfl

theorem decided_starts {s v : State} (c : Settings) (hp : v.pl = s.pl) (hb : v.be = s.be) :
    v.loadStarts c = v.decided { pl := (s.loadStarts c).pl, be := s.be, withdrawn := true, cause := none } := by
  have hpl : (v.loadStarts c).pl = (s.loadStarts c).pl := by
    simp [State.loadStarts, State.dropLoad, State.withPl, State.withdraw, State.withMa, hp]
  rw [← hpl, ← hb]; rfl

theorem decided_fails {s v : State} (l : Load) (hp : v.pl = s.pl) (hb : v.be = s.be) :
    v.loadFails l .layout = v.decided
      { pl := (s.loadFails l .layout).pl, be := s.be, withdrawn := true, cause := some .pfault } := by
  have hpl : (v.loadFails l .layout).pl = (s.loadFails l .layout).pl := by
    simp [State.loadFails, State.dropLoad, State.withPl, State.withdraw, State.withMa, State.raise, State.withAl, hp]
  rw [← hpl, ← hb]; rfl

theorem decided_ready {s v : State} (hp : v.pl = s.pl) (hb : v.be = s.be) :
    (v.raise .profile).enterReady = v.decided
      { pl := { s.pl with st := .ready }, be := { engine := s.be.engine.markStale, held := Held.none },
        withdrawn := false, cause := some .profile } := by
  rw [← hp, ← hb]; rfl

theorem markStale_holds (e : Engine) (n : BitVec 32) : e.markStale.holds n = e.holds n := by
  cases e <;> rfl

/-- The decision is the same in every state with this loader, engine and mount. -/
theorem profileAdopts_decided (s : State) (c : Settings) : ∃ d : Decision,
    (∀ n, d.be.engine.holds n = s.be.engine.holds n) ∧
    ∀ v : State, v.pl = s.pl → v.be = s.be → v.ms = s.ms → v.profileAdopts c = v.decided d := by
  have stands : (∀ v : State, v.pl = s.pl → v.ms = s.ms → v.profileAdopts c = v) → ∃ d : Decision,
      (∀ n, d.be.engine.holds n = s.be.engine.holds n) ∧
      ∀ v : State, v.pl = s.pl → v.be = s.be → v.ms = s.ms → v.profileAdopts c = v.decided d := fun h =>
    ⟨_, fun _ => rfl, fun v hp hb hm => (h v hp hm).trans (decided_stands hp hb)⟩
  by_cases hs : s.pl.startsLoad c = true
  · exact ⟨_, fun _ => rfl, fun v hp hb _ =>
      (profileAdopts_starts (by rw [hp]; exact hs)).trans (decided_starts c hp hb)⟩
  · have hs : s.pl.startsLoad c = false := by simpa using hs
    cases hst : s.pl.st with
    | empty | faulted | ready => exact stands fun v hp _ => by simp [State.profileAdopts, hp, hs, hst]
    | unbound =>
      by_cases hm : s.ms.mount = .present
      · exact ⟨_, markStale_holds _, fun v hp hb hv => by
          rw [← decided_ready hp hb, profileAdopts_unbound (by rw [hp]; exact hs) (by rw [hp]; exact hst), hv, if_pos hm]⟩
      · exact stands fun v hp hv => by simp [State.profileAdopts, hp, hv, hs, hst, hm]
    | loading =>
      cases hl : s.pl.load with
      | none => exact stands fun v hp _ => by simp [State.profileAdopts, hp, hs, hst, hl]
      | some l =>
        cases hn : l.extent with
        | none => exact stands fun v hp _ => by simp [State.profileAdopts, hp, hs, hst, hl, hn]
        | some n =>
          by_cases hh : l.phase = .header
          · exact stands fun v hp _ => profileAdopts_header (by rw [hp]; exact hs) (by rw [hp]; exact hst)
              (by rw [hp]; exact hl) hh
          · have hbody : l.phase = .body ∨ l.phase = .finishing := by
              cases h : l.phase <;> simp_all
            have hdec : ∀ v : State, v.pl = s.pl → v.profileAdopts c =
                if spansShare l.base n c.ringBase (ringSize c.ringSlots c.bands) then v.loadFails l .layout else v :=
              fun v hp => profileAdopts_body (by rw [hp]; exact hs) (by rw [hp]; exact hst)
                (by rw [hp]; exact hl) hbody hn
            by_cases hsh : spansShare l.base n c.ringBase (ringSize c.ringSlots c.bands) = true
            · exact ⟨_, fun _ => rfl, fun v hp hb _ => by
                rw [hdec v hp, if_pos hsh, ← decided_fails l hp hb]⟩
            · exact stands fun v hp _ => by rw [hdec v hp, if_neg hsh]

/-! ## A pending copy comes in force -/

/-- The records as new settings leave them. -/
def State.adoptedAxes (s : State) (c : Settings) : Axes :=
  s.axes.map fun x r => r.adopt (s.mode x) (s.unit x) (c.axis x)

/-- Only the loader's request can be withdrawn. -/
theorem decided_reader (s : State) (d : Decision) :
    (s.decided d).ma.free .settingsReader = s.ma.free .settingsReader ∧
      (s.decided d).ma.clearHold = s.ma.clearHold := by
  unfold State.decided
  cases d.withdrawn <;> exact ⟨rfl, rfl⟩

/-- The state with a pending copy in force and served, before a changed rate acts on the link. -/
def State.takesOver (s : State) (a : Adopted) : State :=
  (((s.comesInForce a (s.ft.frameNo + 1)).axesAdopt s.mode s.unit a.settings).markChanged s).profileAdopts a.settings

theorem adoptPending_some {s : State} {a : Adopted} (h : s.sr.pendingCopy = some a) : s.adoptPending =
    (if a.settings.linkRate = s.rate then s.takesOver a else (s.takesOver a).breakForRate).startTimer := by
  simp only [State.adoptPending, h]
  rfl

/-- What an adoption does before the rate: the report, the records, the decision, and its causes. -/
theorem takesOver_spec {s : State} {d : Decision} (a : Adopted)
    (hd : ∀ v : State, v.pl = s.pl → v.be = s.be → v.ms = s.ms → v.profileAdopts a.settings = v.decided d) :
    (s.takesOver a).sr.inForce = some a ∧ s.takesOver a = { s.decided d with
      sr := (s.takesOver a).sr, axes := s.adoptedAxes a.settings
      al := ((s.decided d).al.raise .adopt).raiseWhen (s.axes.crossed (s.adoptedAxes a.settings)) .axis } := by
  have hw := moveAxes_spec (s.comesInForce a (s.ft.frameNo + 1)) fun x r => r.adopt (s.mode x) (s.unit x) (a.settings.axis x)
  have hd := hd ((s.comesInForce a (s.ft.frameNo + 1)).axesAdopt s.mode s.unit a.settings |>.markChanged s)
    (by rw [State.axesAdopt, hw]; rfl) (by rw [State.axesAdopt, hw]; rfl) (by rw [State.axesAdopt, hw]; rfl)
  change s.takesOver a = _ at hd
  rw [hd, State.axesAdopt, hw]
  refine ⟨rfl, ?_⟩
  simp only [State.decided, ← Attention.raiseSome_raise, ← Attention.raiseWhen_raiseSome]
  rfl

/-- The effect of an adoption, before the axes and the link are looked at. -/
theorem adoptPending_adopted {s : State} {a : Adopted} {d : Decision} (h : s.sr.pendingCopy = some a)
    (hd : ∀ v : State, v.pl = s.pl → v.be = s.be → v.ms = s.ms → v.profileAdopts a.settings = v.decided d) :
    s.adoptPending = { s.decided d with
      sr := s.adoptPending.sr, axes := s.adoptPending.axes, lc := s.adoptPending.lc
      al := ((s.decided d).al.raise .adopt).raiseWhen (s.axes.crossed (s.adoptedAxes a.settings) ||
        (decide (a.settings.linkRate ≠ s.rate) && (s.lc.breaksForRate && (s.takesOver a).someTrackLost))) .axis } := by
  obtain ⟨-, ht⟩ := takesOver_spec a hd
  have hlc : (s.takesOver a).lc = s.lc := by rw [ht]; rfl
  rw [adoptPending_some h, startTimer_frame]
  by_cases hr : a.settings.linkRate = s.rate
  · rw [if_pos hr, decide_eq_false (not_not.2 hr), Bool.false_and, Bool.or_false]
    generalize s.takesOver a = w at *
    rw [ht]
  · rw [if_neg hr, decide_eq_true hr, Bool.true_and, ← Attention.raiseWhen_twice]
    have hb := breakForRate_spec (s.takesOver a)
    rw [hlc] at hb
    generalize (s.takesOver a).breakForRate = b at *
    generalize s.takesOver a = w at *
    rw [hb, ht]

/-! ## The report among the words to be written (R147) -/

/-- A grant closes a slot at most, which marks a field: it leaves the words that are owed. -/
theorem grant_report (s : State) :
    s.grant.sr.report = s.sr.report ∧ s.grant.sr.mirrorRest = s.sr.mirrorRest := by
  have hrw : ∀ u : State, u.rwGranted.sr.report = u.sr.report ∧ u.rwGranted.sr.mirrorRest = u.sr.mirrorRest :=
    fun u => by
      rcases rwGranted_spec u with ⟨w, h⟩ | ⟨o, -, ho, h⟩
      · rw [h]; exact ⟨rfl, rfl⟩
      · rw [h, slotClosed_some u o ho]; exact ⟨rfl, rfl⟩
  cases hc : s.ma.choice with
  | none => rw [grant_none hc]; exact ⟨rfl, rfl⟩
  | some x =>
    have hsr := (access_mirrorWords s x.1 x.2 .nextSlot).2
    rw [grant_of_choice hc, ← hsr]
    split
    · exact hrw _
    · exact ⟨rfl, rfl⟩

/-- A busy Settings Reader stays busy through a grant. -/
theorem grant_reader_busy {s : State} (h : s.ma.free .settingsReader = false) :
    s.grant.ma.free .settingsReader = false := by
  cases hc : s.ma.choice with
  | none => rw [grant_none hc]; exact h
  | some x =>
    obtain ⟨hidle, -, hq⟩ := choice_spec hc
    have hreq : s.ma.reqSr.isSome = true := by
      simpa [Arbiter.free, Arbiter.serves, hidle] using h
    obtain ⟨r, hr⟩ := Option.isSome_iff_exists.1 hreq
    by_cases hx : x.1 = .settingsReader
    · obtain ⟨acc, hacc, hwho, -⟩ := grant_access hc
      rw [← hx, ← hwho]
      exact Arbiter.busy_of_inflight hacc
    · obtain ⟨who, r'⟩ := x
      have hma : s.grant.ma.reqSr = ((s.withdraw who).access who r').ma.reqSr := by
        rw [grant_of_choice hc]
        split
        · rw [(rwGranted_memory _).2.1]
        · rfl
      have hkeep : s.grant.ma.reqSr = some r := by
        rw [hma, ← hr]
        unfold State.access
        cases who <;> first | exact absurd rfl hx | (split <;> rfl)
      simp [Arbiter.free, hkeep]

/-- The end of a step with a report owed: a reader that is free and owes no second word presents the oldest word. -/
theorem settle_report {e : State} (b : State) {w : WordWrite} {ws : List WordWrite} (hr : e.sr.report = w :: ws) :
    (¬ (e.ma.free .settingsReader = true ∧ e.ma.clearHold = false ∧ e.sr.mirrorRest = none) →
      (e.settle b).sr.report = w :: ws) ∧
    (e.ma.free .settingsReader = true ∧ e.ma.clearHold = false ∧ e.sr.mirrorRest = none →
      (e.settle b).sr.report = ws ∧
      ((e.settle b).ma.reqSr = some { addr := w.1, write := some w.2 } ∨
        ((e.settle b).ma.inflight = some { who := .settingsReader, addr := w.1, read := none } ∧
          (e.settle b).mem = memWrite e.mem w.1 w.2))) := by
  unfold State.settle
  have hm : ∀ p : State, p.ma.free .settingsReader = false ∨ p.ma.clearHold = true →
      p.grant.present.sr.report = p.sr.report := fun p hp => by
    rw [(present_reader _).1]
    rcases hp with hp | hp
    · rw [presentSr_of_busy (grant_reader_busy hp)]
      exact (grant_report p).1
    · rw [grant_held hp, presentSr_held hp]
  obtain ⟨hsr, hreq⟩ := present_reader (e.markChanged b)
  have hpres := present_presented (e.markChanged b)
  have hfree : ∀ r, (e.markChanged b).present.ma.reqSr = some r →
      (e.markChanged b).present.ma.free .settingsReader = false := fun r h => by simp [Arbiter.free, h]
  refine ⟨fun hno => ?_, fun ⟨hf, hc, hn⟩ => ?_⟩
  · by_cases hc : e.ma.clearHold = true
    · rw [hm _ (.inr (hpres.clearHold.trans hc)), hsr, presentSr_held (s := e.markChanged b) hc]
      exact hr
    · have hc : e.ma.clearHold = false := by simpa using hc
      by_cases hf : e.ma.free .settingsReader = true
      · cases hn : e.sr.mirrorRest with
        | none => exact absurd ⟨hf, hc, hn⟩ hno
        | some v =>
          have hp := presentSr_rest (s := e.markChanged b) (w := v) hf hc hn
          rw [hp] at hsr hreq
          rw [hm _ (.inl (hfree _ hreq)), hsr]
          exact hr
      · have hf : (e.markChanged b).ma.free .settingsReader = false := eq_false_of_ne_true hf
        have hbusy : (e.markChanged b).present.ma.free .settingsReader = false := by
          rw [presentSr_of_busy hf] at hreq
          rw [Arbiter.free, hreq, Arbiter.serves, hpres.inflight]
          exact hf
        rw [hm _ (.inl hbusy), hsr, presentSr_of_busy hf]
        exact hr
  · have hp := presentSr_report (s := e.markChanged b) (w := w) (ws := ws) hf hc hn hr
    rw [hp] at hsr hreq
    have hbusy := hfree _ hreq
    refine ⟨by rw [hm _ (.inl hbusy), hsr]; rfl, ?_⟩
    have hlast := present_presented (e.markChanged b).present.grant
    rcases grant_reader hreq with hg | hg
    · left
      rw [(present_reader _).2, presentSr_of_busy (grant_reader_busy hbusy)]
      exact hg
    · right
      obtain ⟨hin, hmem⟩ := hg w.2 rfl
      rw [hlast.inflight, hlast.mem, hin, hmem, hpres.mem]
      exact ⟨rfl, rfl⟩

/-! ## What an adoption does to the axes and the link -/

section
variable {s : State} {a : Adopted}

/-- The state that a changed rate acts on. -/
theorem takesOver_kept (s : State) (a : Adopted) :
    (s.takesOver a).sr.inForce = some a ∧ (s.takesOver a).axes = s.adoptedAxes a.settings ∧
      (s.takesOver a).lc = s.lc ∧ (s.takesOver a).clk = s.clk := by
  obtain ⟨d, -, hd⟩ := profileAdopts_decided s a.settings
  obtain ⟨hin, ht⟩ := takesOver_spec a hd
  refine ⟨hin, ?_, ?_, ?_⟩ <;> rw [ht] <;> rfl

theorem adoptedAxes_get (c : Settings) (x : Axis) :
    (s.adoptedAxes c).get x = (s.axes.get x).adopt (s.mode x) (s.unit x) (c.axis x) := Axes.get_map _ _ _

variable (h : s.sr.pendingCopy = some a)
include h

/-- An unchanged rate: the records as adopted, and a STOPPED timer of an active link starts. -/
theorem adoptPending_sameRate (hr : a.settings.linkRate = s.rate) :
    s.adoptPending.axes = s.adoptedAxes a.settings ∧
    s.adoptPending.lc = { s.lc with tick := s.adoptPending.lc.tick } ∧
    (s.lc.Active → s.lc.tick = none → s.adoptPending.lc.tick = some (s.clk.tb + micros a.settings.markPeriod)) ∧
    (s.lc.tick ≠ none → s.adoptPending.lc.tick = s.lc.tick) := by
  obtain ⟨hin, hax, hlc, hclk⟩ := takesOver_kept s a
  rw [adoptPending_some h, if_pos hr]
  rw [← hlc, ← hax, ← hclk]
  generalize s.takesOver a = w at *
  refine ⟨by rw [startTimer_frame], startTimer_lc w, fun hact htick => ?_, startTimer_running⟩
  rw [startTimer_stopped hact htick, State.nextTick, hin]

/-- A changed rate acts on the adopted records. -/
theorem adoptPending_newRate (hr : a.settings.linkRate ≠ s.rate) :
    s.adoptPending = ((s.takesOver a).breakForRate).startTimer := by
  rw [adoptPending_some h, if_neg hr]

/-- A changed rate sends the break from an active link, and from the wait after its own break. -/
theorem adoptPending_sends (hr : a.settings.linkRate ≠ s.rate)
    (hb : s.lc.Active ∨ (s.lc.st = .breakTx ∧ s.lc.breakEnd = none)) :
    s.adoptPending.lc = { s.lc with
      trans := none, waiting := none, rx := none, st := .breakTx, tick := none, reading := none, dominant := none,
      breakEnd := some (s.clk.tb + micros (40 * a.settings.linkRate.tau)), breakOver := false } := by
  obtain ⟨hin, -, hlc, hclk⟩ := takesOver_kept s a
  have hbits : (s.takesOver a).bits 40 = micros (40 * a.settings.linkRate.tau) := by
    simp only [State.bits, State.rate, hin]; rfl
  rw [adoptPending_newRate h hr, breakForRate_sent (by rw [hlc]; exact hb), sendBreak_spec, hlc, hclk, hbits]
  exact congrArg State.lc (startTimer_inactive (by rintro (k | k | k | k) <;> cases k))

/-- A break being driven is lengthened. -/
theorem adoptPending_lengthens (hr : a.settings.linkRate ≠ s.rate) (hb : s.lc.st = .breakTx)
    (he : s.lc.breakEnd ≠ none) :
    s.adoptPending.lc = { s.lc with breakEnd := some (s.clk.tb + micros (40 * a.settings.linkRate.tau)) } := by
  obtain ⟨hin, -, hlc, hclk⟩ := takesOver_kept s a
  have hbits : (s.takesOver a).bits 40 = micros (40 * a.settings.linkRate.tau) := by
    simp only [State.bits, State.rate, hin]; rfl
  rw [adoptPending_newRate h hr, breakForRate_lengthened (by rw [hlc]; exact hb) (by rw [hlc]; exact he), hlc, hclk,
    hbits]
  exact congrArg State.lc (startTimer_inactive (by rintro (k | k | k | k) <;> exact nomatch hb.symm.trans k))

/-- The break that begins or goes on restarts every TRACK axis. -/
theorem adoptPending_restarts (hr : a.settings.linkRate ≠ s.rate) (hb : s.lc.Active ∨ s.lc.st = .breakTx) (x : Axis) :
    ∃ c, s.adoptPending.axes.get x = { restartedAxis ((a.settings.axis x).mode == .track)
        (.pending a.settings.blankTime) ((s.adoptedAxes a.settings).get x) with lastCompletion := c } ∧
      ((a.settings.axis x).mode ≠ .track → c = ((s.adoptedAxes a.settings).get x).lastCompletion) := by
  obtain ⟨hin, hax, hlc, -⟩ := takesOver_kept s a
  obtain ⟨c, hc, hk⟩ := breakForRate_get (s := s.takesOver a) (by rw [hlc]; exact hb) x
  have htracks : (s.takesOver a).tracks x = ((a.settings.axis x).mode == .track) := by
    simp only [State.tracks, State.mode, hin]
  have hblank : (s.takesOver a).blankTime = a.settings.blankTime := by simp only [State.blankTime, hin]
  rw [htracks, hblank, hax] at hc
  rw [htracks, hax] at hk
  refine ⟨c, ?_, fun hm => hk (by simpa using hm)⟩
  rw [adoptPending_newRate h hr, startTimer_frame]
  exact hc

/-- In BREAK_RX and STUCK the break is owed. -/
theorem adoptPending_owes (hr : a.settings.linkRate ≠ s.rate) (hb : s.lc.st = .breakRx ∨ s.lc.st = .stuck) :
    s.adoptPending.lc = { s.lc with owed := true } ∧ s.adoptPending.axes = s.adoptedAxes a.settings := by
  obtain ⟨-, hax, hlc, -⟩ := takesOver_kept s a
  rw [adoptPending_newRate h hr, breakForRate_owed (by rw [hlc]; exact hb), hlc, hax]
  rw [startTimer_inactive (by rcases hb with hb | hb <;> rintro (k | k | k | k) <;> exact nomatch hb.symm.trans k)]
  exact ⟨rfl, rfl⟩

end

/-- When an adoption raises AXIS: an axis changes into or out of LOST, or R30 takes one out of it. -/
theorem adoptPending_crosses_iff (s : State) (a : Adopted) :
    (s.axes.crossed (s.adoptedAxes a.settings) ||
      (decide (a.settings.linkRate ≠ s.rate) && (s.lc.breaksForRate && (s.takesOver a).someTrackLost))) = true ↔
    ∃ x, ¬ ((s.axes.get x).st = .lost ↔
        ((s.axes.get x).adopt (s.mode x) (s.unit x) (a.settings.axis x)).st = .lost) ∨
      ((a.settings.linkRate ≠ s.rate ∧ (s.lc.Active ∨ s.lc.st = .breakTx)) ∧ (a.settings.axis x).mode = .track ∧
        ((s.axes.get x).adopt (s.mode x) (s.unit x) (a.settings.axis x)).st = .lost) := by
  obtain ⟨hin, hax, -, -⟩ := takesOver_kept s a
  have hmode : ∀ x, (s.takesOver a).mode x = (a.settings.axis x).mode := fun x => by simp only [State.mode, hin]
  simp only [Bool.or_eq_true, Bool.and_eq_true, decide_eq_true_eq, Axes.crossed_iff, someTrackLost_iff,
    Link.breaksForRate_iff, hmode, hax, adoptedAxes_get, exists_or, exists_and_left, and_assoc]

theorem ringChanged_some (o c : Settings) :
    ringChanged (some o) c = decide (o.ringBase ≠ c.ringBase ∨ o.ringSlots ≠ c.ringSlots) := by
  by_cases hb : o.ringBase = c.ringBase <;> by_cases hs : o.ringSlots = c.ringSlots <;> simp [ringChanged, hb, hs]

/-! ## Thresholds and modes at an adoption (R26, R37) -/

theorem adopt_changed {r : AxisRec} {mode : AxisMode} {unit : Nat} {new : AxisSettings}
    (h : new.mode ≠ mode ∨ (new.mode = .track ∧ new.unit ≠ unit)) : r.adopt mode unit new = AxisRec.ofMode new.mode := by
  rw [AxisRec.adopt, if_pos (by simpa [axisChanged] using h)]

theorem adopt_kept {r : AxisRec} {mode : AxisMode} {unit : Nat} {new : AxisSettings}
    (hm : new.mode = mode) (hu : new.mode ≠ .track ∨ new.unit = unit) :
    r.adopt mode unit new = r.applyThresholds new := by
  rw [AxisRec.adopt, if_neg (by simp [axisChanged, hm]; rw [← hm]; tauto)]

/-- The begin of the look leaves the words owed and the rate before. -/
theorem beginLook_report (s : State) :
    s.beginLook.sr.report = s.sr.report ∧ s.beginLook.sr.mirrorRest = s.sr.mirrorRest ∧
      s.beginLook.sr.prevRate = s.sr.prevRate := by
  unfold State.beginLook; split <;> exact ⟨rfl, rfl, rfl⟩

/-- Settles O19: the adoption is taken apart into the report, the records, the loader's decision and the rate; the
frame begins in the state it leaves. -/
theorem frameStartBringsSettingsInForce : Obligations.FrameStartBringsSettingsInForce := by
  refine ⟨?_, fun r mode unit new => ⟨fun h => ?_, fun hm hu => ?_⟩⟩
  · intro dt h s a u hr hp h1 h2 hc active begins adopted restarts crosses breakEnd number report presents newRing served
      raised ends
    have hlive : u.al.part.live = true := by rcases hp with hp | hp | hp <;> rw [hp] <;> rfl
    have hedge := frameEdge_of (u := u) hr hlive h1 h2
    obtain ⟨d, hholds, hd⟩ := profileAdopts_decided u a.settings
    have hserved : served = u.decided d := hd u rfl rfl rfl
    have hv := adoptPending_adopted (s := u.takesT0 h) (d := d) hc hd
    obtain ⟨p, hsr⟩ := adoptPending_sr (s := u.takesT0 h) hc
    have hcross := adoptPending_crosses_iff (u.takesT0 h) a
    have hsame := adoptPending_sameRate (s := u.takesT0 h) hc
    have hsends := adoptPending_sends (s := u.takesT0 h) hc
    have hlength := adoptPending_lengthens (s := u.takesT0 h) hc
    have hrestart := adoptPending_restarts (s := u.takesT0 h) hc
    have howes := adoptPending_owes (s := u.takesT0 h) hc
    have hget : ∀ x, ((u.takesT0 h).adoptedAxes a.settings).get x = adopted x := fun x => adoptedAxes_get _ x
    have hevent : ∃ v, (u.takesT0 h).adoptPending = v := ⟨_, rfl⟩
    obtain ⟨v, hvdef⟩ := hevent
    rw [hvdef] at hedge hv hsr hsame hsends hlength hrestart howes
    have hin : v.sr.inForce = some a := by rw [hsr]
    have hbegins : BeginsFrom u served a h v :=
      ⟨by rw [hv]; rfl, by rw [hv]; rfl, hin, by rw [hsr]; rfl, by rw [hv, hserved]; rfl, by rw [hserved]; exact hholds⟩
    have hbegun := frameOrNone_begun u hin
    have hlook := beginLook_frame (v.frameOrNone u)
    have hset := beginLook_settings (v.frameOrNone u)
    have hrep := beginLook_report (v.frameOrNone u)
    rw [frameOrNone_sr] at hset hrep
    have hring : ringChanged u.settings a.settings = newRing := by
      cases ho : u.sr.inForce with
      | none => simp [State.settings, newRing, ho, ringChanged]
      | some o => simp only [State.settings, newRing, ho, Option.map_some, ringChanged_some]
    have heff : ∃ e, (v.frameOrNone u).beginLook = e := ⟨_, rfl⟩
    obtain ⟨e, hedef⟩ := heff
    have ht := settle_settled e u
    have hframe := frameBegins_of hbegins (t := e.settle u) (by rw [hedef]; exact ht)
    rw [hring] at hframe
    rw [hedef] at hedge hlook hset hrep
    generalize v.frameOrNone u = w at *
    rw [hbegun] at hlook
    have hfree : e.ma.free .settingsReader = u.ma.free .settingsReader ∧ e.ma.clearHold = u.ma.clearHold := by
      rw [hlook, hv]
      exact decided_reader (u.takesT0 h) d
    have hmem : e.mem = u.mem := by rw [hlook, hv]; rfl
    have hrest : e.sr.mirrorRest = u.sr.mirrorRest := by rw [hrep.2.1, hsr]; rfl
    have hreport : e.sr.report = report := by rw [hrep.1, hsr]; rfl
    obtain ⟨w0, ws, hwords⟩ : ∃ w0 ws, report = w0 :: ws := List.exists_cons_of_ne_nil (by simp [report])
    obtain ⟨hkept, hpresented⟩ := settle_report u (hreport.trans hwords)
    rw [hfree.1, hfree.2, hrest] at hkept hpresented
    have hal : ∃ b : Bool, (b = true ↔ crosses) ∧ e.al = raised.raiseWhen b .axis := ⟨_, hcross, by
      rw [hlook, hv]
      simp only [raised, hserved, Attention.raise_withPart, Attention.raiseWhen_withPart]
      rfl⟩
    obtain ⟨b, hb, hal⟩ := hal
    have hrecords : SettledRecords (ends (raised.raiseWhen b .axis) (e.settle u).rw.queue) (e.settle u) := by
      have hrec := ht.records
      rw [← hal, ht.queue]
      rw [hlook, hv] at hrec ⊢
      exact hrec
    have haxes : (e.settle u).axes = v.axes := by rw [ht.axes, hlook]
    have hlc : (e.settle u).lc = v.lc := by rw [ht.lc, hlook]
    refine ⟨e.settle u, exec_of_some (c := .frameStart dt h) hedge, hframe, ?_, ?_, ?_, fun hno => ?_, fun hpr => ?_,
      ?_, ?_, ?_, fun hx => ?_, fun hx => ?_, ?_, fun hkeep => ?_, fun hdiff => ⟨fun hact => ?_, fun hst hbe => ?_,
      fun hact x => ⟨fun hm => ?_, fun hm => ?_⟩, fun hst => ?_⟩⟩
    · rw [ht.be, hlook, hv, hserved]; rfl
    · rw [ht.ms, hlook, hv]; rfl
    · rw [ht.fi, hlook, hv]; rfl
    · rw [hkept hno, hwords]
    · obtain ⟨hsent, hword⟩ := hpresented hpr
      rw [hsent, hwords]
      exact ⟨rfl, w0, rfl, by rw [← hmem]; exact hword⟩
    · rw [ht.sr]; exact hset.1.trans hin
    · rw [ht.sr]; exact hset.2.trans (by rw [hsr])
    · rw [ht.sr]; exact hrep.2.2.trans (by rw [hsr]; rfl)
    · rw [hb.2 hx] at hrecords; exact hrecords
    · rw [eq_false_of_ne_true fun k => hx (hb.1 k)] at hrecords; exact hrecords
    · rw [ht.pl, hlook, hv, hserved]; rfl
    · obtain ⟨hax, htick, hstart, hrun⟩ := hsame hkeep
      rw [haxes, hlc, hax]
      exact ⟨hget, htick, hstart, hrun⟩
    · rw [hlc, hsends hdiff hact]
      exact ⟨rfl, rfl, rfl, rfl, rfl⟩
    · rw [hlc, hlength hdiff hst hbe]; rfl
    · obtain ⟨c, hc, -⟩ := hrestart hdiff hact x
      rw [haxes, hc, hm]
      exact ⟨rfl, rfl, rfl, rfl, rfl⟩
    · obtain ⟨c, hc, hk⟩ := hrestart hdiff hact x
      have hmode : ((a.settings.axis x).mode == .track) = false := by simpa using hm
      rw [haxes, hc, hk hm, hmode, ← hget x]
      rfl
    · obtain ⟨hl, hax⟩ := howes hdiff hst
      rw [hlc, haxes, hl, hax]
      exact ⟨rfl, hget⟩
  · rw [adopt_changed h]
    cases new.mode <;> rfl
  · rw [adopt_kept hm hu, AxisRec.applyThresholds, AxisRec.judgeMisses_spec]
    dsimp only
    split <;> rfl

end Sys2Proof.Machine
/-! PROOFS. The examination of a settings page: settles O30 and O55. -/

namespace Sys2Proof.Machine

/-! ## Tests and what they state -/

theorem within_iff (lo hi n : Nat) : within lo hi n = true ↔ lo ≤ n ∧ n ≤ hi := by
  simp [within]

theorem powerTo8_iff (n : Nat) : powerTo8 n = true ↔ n ∈ [1, 2, 4, 8] := by
  simp [powerTo8, or_assoc]

/-- A list of numbered tests states, number by number, the propositions of another. -/
def TestsState (xs : List (Nat × Bool)) (fs : List (Nat × Prop)) : Prop :=
  List.Forall₂ (fun x f => x.1 = f.1 ∧ (x.2 = true ↔ f.2)) xs fs

namespace TestsState

variable {xs : List (Nat × Bool)} {fs : List (Nat × Prop)}

theorem nil : TestsState [] [] := List.Forall₂.nil

theorem cons {n : Nat} {b : Bool} {q : Prop} (h : b = true ↔ q) (hs : TestsState xs fs) :
    TestsState ((n, b) :: xs) ((n, q) :: fs) := List.Forall₂.cons ⟨rfl, h⟩ hs

theorem append {ys : List (Nat × Bool)} {gs : List (Nat × Prop)} (hs : TestsState xs fs) (hg : TestsState ys gs) :
    TestsState (xs ++ ys) (fs ++ gs) := List.rel_append hs hg

theorem all_iff (h : TestsState xs fs) : (∀ x ∈ xs, x.2 = true) ↔ ∀ f ∈ fs, f.2 := by
  induction h with
  | nil => simp
  | cons hd _ ih => simp only [List.forall_mem_cons, hd.2, ih]

theorem below_iff (h : TestsState xs fs) (d : Nat) :
    (∀ x ∈ xs, x.1 < d → x.2 = true) ↔ ∀ f ∈ fs, f.1 < d → f.2 := by
  induction h with
  | nil => simp
  | cons hd _ ih => simp only [List.forall_mem_cons, hd.1, hd.2, ih]

theorem fails_iff (h : TestsState xs fs) (d : Nat) :
    (∃ x ∈ xs, x.1 = d ∧ x.2 = false) ↔ ∃ f ∈ fs, f.1 = d ∧ ¬ f.2 := by
  induction h with
  | nil => simp
  | cons hd _ ih =>
    simp only [← Bool.not_eq_true] at ih ⊢
    simp only [List.exists_mem_cons_iff, hd.1, hd.2, ih]

end TestsState

/-! ## Two-word fields -/

theorem append_eq_ofNat (a b : Word) : (a ++ b : BitVec 32) = BitVec.ofNat 32 (a.toNat * 65536 + b.toNat) := by
  have ha := a.isLt
  have hb := b.isLt
  refine BitVec.eq_of_toNat_eq ?_
  rw [BitVec.toNat_append, ← Nat.shiftLeft_add_eq_or_of_lt hb, Nat.shiftLeft_eq, BitVec.toNat_ofNat,
    Nat.mod_eq_of_lt (by omega)]

/-- The points of a map, their counts read as two-word numbers. -/
theorem pagePoints_eq (p : List Word) (x : Axis) : pagePoints p x =
    (List.range (min (pageNat p (blockAt x + 7)) (mapCapacity x))).map (fun k =>
      ((BitVec.ofNat 32 (pageLong p (blockAt x + 8 + 3 * k))).toInt, pageNat p (blockAt x + 10 + 3 * k))) :=
  List.map_congr_left fun k _ => Prod.ext (congrArg BitVec.toInt (append_eq_ofNat _ _))
    (congrArg (pageNat p) (by omega))

/-! ## RANGE (R129, R130) -/

/-- What RANGE asks of the page's own fields, by number. -/
def fieldRanges (p : List Word) : List (Nat × Prop) :=
  [(3, 16 ≤ pageNat p 2 ∧ pageNat p 2 ≤ 8192), (4, (1 ≤ pageNat p 3 ∧ pageNat p 3 ≤ 32) ∧ pageNat p 3 ≤ pageNat p 2),
   (5, 256 ≤ pageNat p 4 ∧ pageNat p 4 ≤ 65535), (7, 1 ≤ pageLong p 6 ∧ pageLong p 6 ≤ 1000000),
   (8, pageNat p 8 ≤ 10000), (9, 1000 ≤ pageLong p 9 ∧ pageLong p 9 ≤ 2000000),
   (11, 2 ≤ pageNat p 12 ∧ pageNat p 12 ≤ 16), (14, pageNat p 16 ≤ 1), (15, pageNat p 17 ≤ 1),
   (16, pageNat p 18 ≤ 1), (18, 16384 ≤ pageNat p 20 ∧ pageNat p 20 ≤ 24576),
   (19, 4194304 ≤ pageLong p 21 ∧ pageLong p 21 ≤ 8388608), (20, pageNat p 23 ≤ 32767), (21, pageNat p 24 ≤ 256),
   (22, 4096 ≤ pageNat p 25 ∧ pageNat p 25 ≤ 32767), (23, pageNat p 26 ≤ 20000), (24, pageNat p 27 ≤ 255),
   (25, pageNat p 28 ∈ [1, 2, 4, 8]), (26, pageNat p 29 ≤ 1), (27, 100 ≤ pageNat p 30 ∧ pageNat p 30 ≤ 5000),
   (28, pageNat p 31 ≤ 255), (29, pageNat p 32 ≤ 1000), (30, ∀ i, 33 ≤ i → i ≤ 40 → pageNat p i ≤ 3)]

theorem pageFields_state (p : List Word) : TestsState (pageFields p) (fieldRanges p) := by
  have upTo : ∀ hi n, within 0 hi n = true ↔ n ≤ hi := fun hi n => by simp [within_iff]
  have hschedule : (List.range 8).all (fun i => within 0 3 (pageNat p (33 + i))) = true ↔
      ∀ i, 33 ≤ i → i ≤ 40 → pageNat p i ≤ 3 := by
    simp only [List.all_eq_true, List.mem_range, upTo]
    refine ⟨fun h i h1 h2 => ?_, fun h i hi => h _ (by omega) (by omega)⟩
    have := h (i - 33) (by omega)
    rwa [Nat.add_sub_cancel' h1] at this
  have hbands : (within 1 32 (pageNat p 3) && decide (pageNat p 3 ≤ pageNat p 2)) = true ↔
      (1 ≤ pageNat p 3 ∧ pageNat p 3 ≤ 32) ∧ pageNat p 3 ≤ pageNat p 2 := by
    rw [Bool.and_eq_true, within_iff, decide_eq_true_eq]
  exact .cons (within_iff ..) <| .cons hbands <| .cons (within_iff ..) <| .cons (within_iff ..) <| .cons (upTo ..) <|
    .cons (within_iff ..) <| .cons (within_iff ..) <| .cons (upTo ..) <| .cons (upTo ..) <| .cons (upTo ..) <|
    .cons (within_iff ..) <| .cons (within_iff ..) <| .cons (upTo ..) <| .cons (upTo ..) <| .cons (within_iff ..) <|
    .cons (upTo ..) <| .cons (upTo ..) <| .cons (powerTo8_iff _) <| .cons (upTo ..) <| .cons (within_iff ..) <|
    .cons (upTo ..) <| .cons (upTo ..) <| .cons hschedule .nil

/-- What RANGE asks of an axis block. -/
def blockRanges (p : List Word) (x : Axis) : List (Nat × Prop) :=
  let b := blockAt x
  let f := blockField x
  [(f, pageNat p b ≤ 2), (f + 1, pageNat p b = 1 → 1 ≤ pageNat p (b + 1) ∧ pageNat p (b + 1) ≤ 4),
   (f + 3, 1 ≤ pageNat p (b + 3) ∧ pageNat p (b + 3) ≤ 16), (f + 4, 1 ≤ pageNat p (b + 4) ∧ pageNat p (b + 4) ≤ 255),
   (f + 5, pageNat p (b + 4) ≤ pageNat p (b + 5) ∧ pageNat p (b + 5) ≤ 255),
   (f + 6, pageNat p (b + 6) ∈ if x = .focus then [1] else [1, 2, 4, 8]),
   (f + 7, pageNat p b = 1 → 2 ≤ pageNat p (b + 7) ∧ pageNat p (b + 7) ≤ mapCapacity x),
   (f + 8, pageNat p b = 1 → ∀ q ∈ (List.range (min (pageNat p (b + 7)) (mapCapacity x))).map (fun k =>
      ((BitVec.ofNat 32 (pageLong p (b + 8 + 3 * k))).toInt, pageNat p (b + 10 + 3 * k))),
      -8388608 ≤ q.1 ∧ q.1 ≤ 8388607)]

theorem axisFields_state (p : List Word) (x : Axis) : TestsState (axisFields p x) (blockRanges p x) := by
  have upTo : ∀ hi n, within 0 hi n = true ↔ n ≤ hi := fun hi n => by simp [within_iff]
  have inTrack : ∀ (b : Bool) (q : Prop), (b = true ↔ q) →
      ((!(pageNat p (blockAt x) == 1) || b) = true ↔ (pageNat p (blockAt x) = 1 → q)) := fun b q h => by
    rw [Bool.or_eq_true, Bool.not_eq_true', beq_eq_false_iff_ne, h]
    tauto
  have haverage : ((if x = .focus then pageNat p (blockAt x + 6) == 1 else powerTo8 (pageNat p (blockAt x + 6))) = true) ↔
      pageNat p (blockAt x + 6) ∈ if x = .focus then [1] else [1, 2, 4, 8] := by
    split
    · rw [beq_iff_eq, List.mem_singleton]
    · exact powerTo8_iff _
  have hcounts : (pagePoints p x).all (fun q => decide (-8388608 ≤ q.1) && decide (q.1 ≤ 8388607)) = true ↔
      ∀ q ∈ (List.range (min (pageNat p (blockAt x + 7)) (mapCapacity x))).map (fun k =>
        ((BitVec.ofNat 32 (pageLong p (blockAt x + 8 + 3 * k))).toInt, pageNat p (blockAt x + 10 + 3 * k))),
        -8388608 ≤ q.1 ∧ q.1 ≤ 8388607 := by
    rw [← pagePoints_eq]
    simp only [List.all_eq_true, Bool.and_eq_true, decide_eq_true_eq]
  exact .cons (upTo ..) <| .cons (inTrack _ _ (within_iff ..)) <| .cons (within_iff ..) <| .cons (within_iff ..) <|
    .cons (within_iff ..) <| .cons haverage <| .cons (inTrack _ _ (within_iff ..)) <| .cons (inTrack _ _ hcounts) .nil


/-- Every field with a test, in rising number. -/
def checkedFields (p : List Word) : List (Nat × Bool) := pageFields p ++ axisOrder.flatMap (axisFields p)

theorem checkedFields_rise (p : List Word) : ((checkedFields p).map Prod.fst).Pairwise (· < ·) := by
  have hnumbers : (checkedFields p).map Prod.fst =
      [3, 4, 5, 7, 8, 9, 11, 14, 15, 16, 18, 19, 20, 21, 22, 23, 24, 25, 26, 27, 28, 29, 30,
       31, 32, 34, 35, 36, 37, 38, 39, 40, 41, 43, 44, 45, 46, 47, 48, 49, 50, 52, 53, 54, 55, 56, 57] := rfl
  rw [hnumbers]
  decide

theorem rangeFailure_none_iff (p : List Word) : rangeFailure p = none ↔ ∀ f ∈ checkedFields p, f.2 = true := by
  rw [rangeFailure, Option.map_eq_none_iff, List.find?_eq_none]
  simp only [Bool.not_eq_true', Bool.not_eq_false]
  rfl

/-- The field reported fails its test, and every field of a smaller number passes. -/
theorem rangeFailure_some {p : List Word} {d : Nat} (h : rangeFailure p = some d) :
    (∃ f ∈ checkedFields p, f.1 = d ∧ f.2 = false) ∧ ∀ f ∈ checkedFields p, f.1 < d → f.2 = true := by
  obtain ⟨f, hf, rfl⟩ := Option.map_eq_some_iff.1 h
  rw [← checkedFields] at hf
  obtain ⟨hfail, as, bs, happ, hpass⟩ := List.find?_eq_some_iff_append.1 hf
  have hrise := checkedFields_rise p
  rw [happ] at hrise ⊢
  refine ⟨⟨f, by simp, rfl, by simpa using hfail⟩, fun g hg hlt => ?_⟩
  rcases List.mem_append.1 hg with hg | hg
  · simpa using hpass g hg
  · rcases List.mem_cons.1 hg with rfl | hg
    · exact absurd hlt (lt_irrefl _)
    · rw [List.map_append, List.map_cons, List.pairwise_append, List.pairwise_cons] at hrise
      exact absurd hlt (Nat.lt_asymm (hrise.2.1.1 g.1 (List.mem_map_of_mem hg)))

/-! ## The checks in their order (R128) -/

/-- A check that fails gives its code and detail, one that passes leaves the page to the checks after it. -/
theorem refusedWith_orElse (code : Nat) (f : Option Nat) (rest : Option Refused) (r : Refused) :
    (refusedWith code f <|> rest) = some r ↔ (r.code = code ∧ f = some r.detail) ∨ (f = none ∧ rest = some r) := by
  obtain ⟨c, d⟩ := r
  cases f <;> simp [refusedWith, eq_comm]

theorem refusedWith_some (code : Nat) (f : Option Nat) (r : Refused) :
    refusedWith code f = some r ↔ r.code = code ∧ f = some r.detail := by
  obtain ⟨c, d⟩ := r
  cases f <;> simp [refusedWith, eq_comm]

/-- A page passes exactly when it passes each check. -/
theorem pageRefusal_none_iff (p : List Word) (extent : Option (Nat × Nat)) :
    pageRefusal p extent = none ↔ wordSum p = 0 ∧ rangeFailure p = none ∧
      layoutFailure (pageSettings p) extent = none ∧ mapFailure (pageSettings p) = none ∧
      addressFailure (pageSettings p) = none ∧ scheduleFailure (pageSettings p) = none ∧
      periodFailure (pageSettings p) = none := by
  simp [pageRefusal, refusedWith]

/-- The first check that fails gives the refusal. -/
theorem pageRefusal_some_iff (p : List Word) (extent : Option (Nat × Nat)) (r : Refused) :
    let c := pageSettings p
    pageRefusal p extent = some r ↔
      (r.code = 18 ∧ wordSum p ≠ 0 ∧ r.detail = wordSum p) ∨ (wordSum p = 0 ∧
      ((r.code = 19 ∧ rangeFailure p = some r.detail) ∨ (rangeFailure p = none ∧
      ((r.code = 20 ∧ layoutFailure c extent = some r.detail) ∨ (layoutFailure c extent = none ∧
      ((r.code = 21 ∧ mapFailure c = some r.detail) ∨ (mapFailure c = none ∧
      ((r.code = 22 ∧ addressFailure c = some r.detail) ∨ (addressFailure c = none ∧
      ((r.code = 23 ∧ scheduleFailure c = some r.detail) ∨ (scheduleFailure c = none ∧
      (r.code = 24 ∧ periodFailure c = some r.detail)))))))))))) := by
  have hsum : ∀ d, (if wordSum p = 0 then none else some (wordSum p)) = some d ↔ wordSum p ≠ 0 ∧ d = wordSum p :=
    fun d => by split <;> simp_all [eq_comm]
  have hzero : (if wordSum p = 0 then none else some (wordSum p)) = none ↔ wordSum p = 0 := by
    split <;> simp_all
  simp only [pageRefusal, refusedWith_orElse, refusedWith_some, hsum, hzero]

/-- What the code of a refusal says of each check. -/
theorem pageRefusal_code {p : List Word} {extent : Option (Nat × Nat)} {r : Refused}
    (h : pageRefusal p extent = some r) :
    let c := pageSettings p
    (wordSum p ≠ 0 → r = { code := 18, detail := wordSum p }) ∧
    (wordSum p = 0 → 19 ≤ r.code ∧ r.code ≤ 24) ∧
    (r.code = 19 → rangeFailure p = some r.detail) ∧ (19 < r.code → rangeFailure p = none) ∧
    (r.code = 20 → layoutFailure c extent = some r.detail) ∧ (20 < r.code → layoutFailure c extent = none) ∧
    (r.code = 21 → mapFailure c = some r.detail) ∧ (21 < r.code → mapFailure c = none) ∧
    (r.code = 22 → addressFailure c = some r.detail) ∧ (22 < r.code → addressFailure c = none) ∧
    (r.code = 23 → scheduleFailure c = some r.detail) ∧ (23 < r.code → scheduleFailure c = none) ∧
    (r.code = 24 → periodFailure c = some r.detail) := by
  have h := (pageRefusal_some_iff p extent r).1 h
  obtain ⟨code, detail⟩ := r
  dsimp only at h ⊢
  rcases h with ⟨rfl, hs, rfl⟩ | ⟨hs, ⟨rfl, h⟩ | ⟨h1, ⟨rfl, h⟩ | ⟨h2, ⟨rfl, h⟩ | ⟨h3, ⟨rfl, h⟩ | ⟨h4, ⟨rfl, h⟩ | ⟨h5, rfl, h⟩⟩⟩⟩⟩⟩ <;>
    simp [*]

/-! ## LAYOUT (R131) -/

section
variable (c : Settings) (extent : Option (Nat × Nat))

def Settings.ringLies : Prop := 0x0500 ≤ c.ringBase ∧ c.ringBase + ringSize c.ringSlots c.bands ≤ 32768

def Settings.profileLies : Prop := 0x0500 ≤ c.profileBase ∧ c.profileBase < 32768

def Settings.profileApart : Prop :=
  c.profileBase < c.ringBase ∨ c.ringBase + ringSize c.ringSlots c.bands ≤ c.profileBase

def Settings.extentApart : Prop := ∀ base n, extent = some (base, n) →
  base + n ≤ c.ringBase ∨ c.ringBase + ringSize c.ringSlots c.bands ≤ base

/-- The four tests of LAYOUT in their order. -/
theorem layoutFailure_spec :
    (¬ c.ringLies ∧ layoutFailure c extent = some 1) ∨
    (c.ringLies ∧ ¬ c.profileLies ∧ layoutFailure c extent = some 2) ∨
    (c.ringLies ∧ c.profileLies ∧ ¬ c.profileApart ∧ layoutFailure c extent = some 3) ∨
    (c.ringLies ∧ c.profileLies ∧ c.profileApart ∧ ¬ c.extentApart extent ∧ layoutFailure c extent = some 4) ∨
    (c.ringLies ∧ c.profileLies ∧ c.profileApart ∧ c.extentApart extent ∧ layoutFailure c extent = none) := by
  have h1 : ¬ c.ringLies ↔
      c.ringBase < Config.freeArea ∨ Config.memoryWords < c.ringBase + ringSize c.ringSlots c.bands := by
    simp only [Settings.ringLies, Config.freeArea, Config.memoryWords]; omega
  have h2 : ¬ c.profileLies ↔ c.profileBase < Config.freeArea ∨ Config.memoryWords ≤ c.profileBase := by
    simp only [Settings.profileLies, Config.freeArea, Config.memoryWords]; omega
  have h3 : ¬ c.profileApart ↔
      c.ringBase ≤ c.profileBase ∧ c.profileBase < c.ringBase + ringSize c.ringSlots c.bands := by
    simp only [Settings.profileApart]; omega
  unfold layoutFailure
  dsimp only
  split
  · exact .inl ⟨h1.2 ‹_›, rfl⟩
  rename_i k1
  split
  · exact .inr (.inl ⟨not_not.1 (mt h1.1 k1), h2.2 ‹_›, rfl⟩)
  rename_i k2
  split
  · exact .inr (.inr (.inl ⟨not_not.1 (mt h1.1 k1), not_not.1 (mt h2.1 k2), h3.2 ‹_›, rfl⟩))
  rename_i k3
  refine .inr (.inr (.inr ?_))
  have hplaced := And.intro (not_not.1 (mt h1.1 k1)) (And.intro (not_not.1 (mt h2.1 k2)) (not_not.1 (mt h3.1 k3)))
  obtain ⟨hring, hprofile, hapart⟩ := hplaced
  split
  · rename_i base n
    have hshare := spansShare_iff c.ringBase (ringSize c.ringSlots c.bands) base n
    split
    · refine .inl ⟨hring, hprofile, hapart, fun k => ?_, rfl⟩
      have := k base n rfl
      have := hshare.1 ‹_›
      omega
    · refine .inr ⟨hring, hprofile, hapart, fun b m hbm => ?_, rfl⟩
      cases hbm
      have := mt hshare.2 ‹_›
      omega
  · exact .inr ⟨hring, hprofile, hapart, fun _ _ => nofun, rfl⟩

theorem layoutFailure_none_iff : layoutFailure c extent = none ↔
    c.ringLies ∧ c.profileLies ∧ c.profileApart ∧ c.extentApart extent := by
  rcases layoutFailure_spec c extent with ⟨h, hf⟩ | ⟨-, h, hf⟩ | ⟨-, -, h, hf⟩ | ⟨-, -, -, h, hf⟩ | ⟨h1, h2, h3, h4, hf⟩ <;>
    rw [hf] <;> simp only [reduceCtorEq, false_iff, true_iff] <;> tauto

variable {c extent}

theorem layoutFailure_some {d : Nat} (hd : layoutFailure c extent = some d) :
    (d = 1 ∧ ¬ c.ringLies) ∨ (d = 2 ∧ c.ringLies ∧ ¬ c.profileLies) ∨
    (d = 3 ∧ c.ringLies ∧ c.profileLies ∧ ¬ c.profileApart) ∨
    (d = 4 ∧ c.ringLies ∧ c.profileLies ∧ c.profileApart ∧ ¬ c.extentApart extent) := by
  rcases layoutFailure_spec c extent with ⟨h, hf⟩ | ⟨h, h2, hf⟩ | ⟨h, h2, h3, hf⟩ | ⟨h, h2, h3, h4, hf⟩ | ⟨-, -, -, -, hf⟩ <;>
    cases hf.symm.trans hd <;> tauto

end

/-! ## MAP, ADDRESS, SCHEDULE, PERIOD (R132 to R134) -/

/-- For a transitive relation the neighbours of a list decide all its pairs. -/
theorem neighbours_iff_pairwise {α : Type} {r : α → α → Bool} (ht : ∀ a b c, r a b = true → r b c = true → r a c = true) :
    ∀ l : List α, neighbours r l = true ↔ l.Pairwise (fun a b => r a b = true)
  | [] => by simp [neighbours]
  | [a] => by simp [neighbours]
  | a :: b :: rest => by
    have ih := neighbours_iff_pairwise ht (b :: rest)
    simp only [neighbours, Bool.and_eq_true, ih, List.pairwise_cons (a := a)]
    constructor
    · rintro ⟨hab, hp⟩
      refine ⟨fun x hx => ?_, hp⟩
      rcases List.mem_cons.1 hx with rfl | hx
      · exact hab
      · exact ht _ _ _ hab ((List.pairwise_cons.1 hp).1 x hx)
    · rintro ⟨hall, hp⟩
      exact ⟨hall b (List.mem_cons_self ..), hp⟩

/-- A map in order: counts strictly rising or strictly falling, coordinates not falling. -/
theorem mapInOrder_iff (ps : List (Int × Nat)) : mapInOrder ps = true ↔
    ((ps.map Prod.fst).Pairwise (· < ·) ∨ (ps.map Prod.fst).Pairwise (· > ·)) ∧
      (ps.map Prod.snd).Pairwise (· ≤ ·) := by
  simp only [mapInOrder, Bool.and_eq_true, Bool.or_eq_true, List.pairwise_map]
  rw [neighbours_iff_pairwise, neighbours_iff_pairwise, neighbours_iff_pairwise]
  · simp only [decide_eq_true_eq, gt_iff_lt]
  all_goals intro a b c; simp only [decide_eq_true_eq]; omega

/-- The first axis that fails a test is reported. -/
theorem axis_find (q : Axis → Bool) (n : Axis → Nat) :
    ((axisOrder.find? q).map n = none ↔ ∀ x, q x = false) ∧
    (∀ d, (axisOrder.find? q).map n = some d →
      (d = n .focus ∧ q .focus = true) ∨ (d = n .iris ∧ q .focus = false ∧ q .iris = true) ∨
      (d = n .zoom ∧ q .focus = false ∧ q .iris = false ∧ q .zoom = true)) := by
  have hall : (∀ x, q x = false) ↔ q .focus = false ∧ q .iris = false ∧ q .zoom = false :=
    ⟨fun h => ⟨h _, h _, h _⟩, fun ⟨hf, hi, hz⟩ x => by cases x <;> assumption⟩
  rw [hall, axisOrder]
  cases hf : q .focus <;> cases hi : q .iris <;> cases hz : q .zoom <;> simp [List.find?, hf, hi, hz, eq_comm]

/-- A map of a TRACK axis is in order (R132). -/
def Settings.mapOrdered (c : Settings) (x : Axis) : Prop :=
  (c.axis x).mode = .track → mapInOrder (c.axis x).points = true

/-- A slot of SCHEDULE names a TRACK axis (R133). -/
def Settings.scheduled (c : Settings) (x : Axis) : Prop := (c.axis x).mode = .track → some x ∈ c.schedule

theorem mapTest_iff (c : Settings) (x : Axis) :
    ((c.axis x).mode == .track && !mapInOrder (c.axis x).points) = false ↔ c.mapOrdered x := by
  simp only [Settings.mapOrdered, Bool.and_eq_false_iff, beq_eq_false_iff_ne, Bool.not_eq_false']
  tauto

theorem scheduleTest_iff (c : Settings) (x : Axis) :
    ((c.axis x).mode == .track && !c.schedule.contains (some x)) = false ↔ c.scheduled x := by
  simp only [Settings.scheduled, Bool.and_eq_false_iff, beq_eq_false_iff_ne, Bool.not_eq_false',
    List.contains_iff_mem]
  tauto

theorem mapFailure_none_iff (c : Settings) : mapFailure c = none ↔ ∀ x, c.mapOrdered x := by
  rw [mapFailure, (axis_find _ _).1]
  simp only [mapTest_iff]

theorem mapFailure_some {c : Settings} {d : Nat} (h : mapFailure c = some d) :
    (d = 39 ∧ ¬ c.mapOrdered .focus) ∨ (d = 48 ∧ c.mapOrdered .focus ∧ ¬ c.mapOrdered .iris) ∨
    (d = 57 ∧ c.mapOrdered .focus ∧ c.mapOrdered .iris ∧ ¬ c.mapOrdered .zoom) := by
  have hx := (axis_find _ _).2 d h
  simp only [← Bool.not_eq_false, mapTest_iff, blockField] at hx
  exact hx

theorem scheduleFailure_none_iff (c : Settings) : scheduleFailure c = none ↔ ∀ x, c.scheduled x := by
  rw [scheduleFailure, (axis_find _ _).1]
  simp only [scheduleTest_iff]

theorem scheduleFailure_some {c : Settings} {d : Nat} (h : scheduleFailure c = some d) :
    (d = 1 ∧ ¬ c.scheduled .focus) ∨ (d = 2 ∧ c.scheduled .focus ∧ ¬ c.scheduled .iris) ∨
    (d = 3 ∧ c.scheduled .focus ∧ c.scheduled .iris ∧ ¬ c.scheduled .zoom) := by
  have hx := (axis_find _ _).2 d h
  simp only [← Bool.not_eq_false, scheduleTest_iff, axisNumber] at hx
  exact hx

/-- No two TRACK axes share a unit (R133). -/
def Settings.unitsApart (c : Settings) : Prop :=
  c.focus.apart c.iris ∧ c.focus.apart c.zoom ∧ c.iris.apart c.zoom

/-- Two axes in TRACK with one unit. -/
def AxisSettings.clashes (a b : AxisSettings) : Bool :=
  a.mode == .track && b.mode == .track && a.unit == b.unit

theorem clash_iff (a b : AxisSettings) : a.clashes b = true ↔ ¬ a.apart b := by
  simp only [AxisSettings.clashes, AxisSettings.apart, Bool.and_eq_true, beq_iff_eq, Classical.not_imp, not_not, and_assoc]

theorem addressFailure_spec (c : Settings) :
    (addressFailure c = none ↔ c.unitsApart) ∧
    (∀ d, addressFailure c = some d →
      (d = c.focus.unit ∧ (¬ c.focus.apart c.iris ∨ ¬ c.focus.apart c.zoom)) ∨
      (d = c.iris.unit ∧ ¬ c.iris.apart c.zoom)) := by
  have hfi := clash_iff c.focus c.iris
  have hfz := clash_iff c.focus c.zoom
  have hiz := clash_iff c.iris c.zoom
  simp only [Settings.unitsApart]
  change ((if (c.focus.clashes c.iris || c.focus.clashes c.zoom) = true then some c.focus.unit
    else if c.iris.clashes c.zoom = true then some c.iris.unit else none) = none ↔ _) ∧ ∀ d,
      (if (c.focus.clashes c.iris || c.focus.clashes c.zoom) = true then some c.focus.unit
    else if c.iris.clashes c.zoom = true then some c.iris.unit else none) = some d → _
  generalize c.focus.clashes c.iris = fi at *
  generalize c.focus.clashes c.zoom = fz at *
  generalize c.iris.clashes c.zoom = iz at *
  cases fi <;> cases fz <;> cases iz <;> simp_all [eq_comm]

theorem periodFailure_spec (c : Settings) :
    (periodFailure c = none ↔ 96 * c.linkRate.tau ≤ c.markPeriod) ∧
    (∀ d, periodFailure c = some d → d = 384 ∧ c.markPeriod < 96 * c.linkRate.tau) := by
  unfold periodFailure
  split <;> simp_all [eq_comm]

/-! ## What a page that passes holds -/

theorem pageNat_le (p : List Word) (i : Nat) : pageNat p i ≤ 65535 :=
  Nat.le_of_lt_succ (nthWord p i).isLt

theorem modeOf_track (n : Nat) : modeOf n = .track ↔ n = 1 := by
  unfold modeOf
  split
  · simp_all
  · split <;> simp_all

theorem checkedFields_pass (p : List Word) : (∀ f ∈ checkedFields p, f.2 = true) ↔
    (∀ f ∈ pageFields p, f.2 = true) ∧ ∀ x, ∀ f ∈ axisFields p x, f.2 = true := by
  simp only [checkedFields, List.forall_mem_append, axisOrder, List.flatMap_cons, List.flatMap_nil, List.append_nil]
  refine and_congr_right fun _ => ⟨fun ⟨hf, hi, hz⟩ x => ?_, fun h => ⟨h _, h _, h _⟩⟩
  cases x <;> assumption

/-- The block of an axis that passes the checks is legal. -/
theorem pageAxis_legal {p : List Word} {x : Axis} (h : ∀ f ∈ axisFields p x, f.2 = true)
    (hmap : (pageSettings p).mapOrdered x) (hslot : (pageSettings p).scheduled x) :
    (pageAxis p x).legal x (pageSettings p).schedule := by
  obtain ⟨-, hunit, hqualify, hstale, hlost, haverage, hpoints, hcounts⟩ := by
    have := (axisFields_state p x).all_iff.1 h
    simpa only [blockRanges, List.forall_mem_cons, List.not_mem_nil, IsEmpty.forall_iff, implies_true, and_true] using this
  have haxis : (pageSettings p).axis x = pageAxis p x := by cases x <;> rfl
  rw [Settings.mapOrdered, haxis] at hmap
  rw [Settings.scheduled, haxis] at hslot
  rw [← pagePoints_eq] at hcounts
  have haverage : if x = .focus then (pageAxis p x).average = 1 else (pageAxis p x).average ∈ [1, 2, 4, 8] := by
    split
    · rw [if_pos ‹_›] at haverage
      exact List.mem_singleton.1 haverage
    · rw [if_neg ‹_›] at haverage
      exact haverage
  refine ⟨pageNat_le _ _, hqualify, ⟨hstale.1, hlost.1, hlost.2⟩, haverage, fun ht => ?_⟩
  have hone := (modeOf_track _).1 ht
  have hlength : (pageAxis p x).points.length = min (pageNat p (blockAt x + 7)) (mapCapacity x) := by
    simp [pageAxis, pagePoints]
  have hp := hpoints hone
  refine ⟨hunit hone, by rw [hlength]; omega, hmap ht, hslot ht, fun q hq => ⟨?_, ?_, ?_⟩⟩
  · exact (hcounts hone q hq).1
  · exact (hcounts hone q hq).2
  · obtain ⟨k, -, rfl⟩ := List.mem_map.1 hq
    exact pageNat_le _ _

/-- A page that no check refuses holds legal settings. -/
theorem pageSettings_legal {p : List Word} {extent : Option (Nat × Nat)} (h : pageRefusal p extent = none) :
    (pageSettings p).legal := by
  obtain ⟨-, hrange, hlayout, hmap, haddress, hschedule, hperiod⟩ := (pageRefusal_none_iff p extent).1 h
  obtain ⟨hfields, haxes⟩ := (checkedFields_pass p).1 ((rangeFailure_none_iff p).1 hrange)
  obtain ⟨hrows, hbands, hline, hexposure, hlead, htimeout, hslots, -, -, -, hheadroom, hscale, hshift, hstrength, hgain,
    hextrap, hstretch, hmount, -, hmark, hlatency, hblank, -⟩ := by
    have := (pageFields_state p).all_iff.1 hfields
    simpa only [fieldRanges, List.forall_mem_cons, List.not_mem_nil, IsEmpty.forall_iff, implies_true, and_true] using this
  have hmap := (mapFailure_none_iff _).1 hmap
  have hschedule := (scheduleFailure_none_iff _).1 hschedule
  have hunits := (addressFailure_spec _).1.1 haddress
  have hperiod := (periodFailure_spec _).1.1 hperiod
  obtain ⟨hring, hlies, hapart, -⟩ := (layoutFailure_none_iff _ _).1 hlayout
  exact ⟨hrows, ⟨hbands.1.1, hbands.1.2, hbands.2⟩, hline, pageNat_le _ _, hexposure, hlead, pageNat_le _ _, htimeout,
    hslots, hring, hlies, hapart, hheadroom, hscale, hshift, hstrength, hgain, hextrap, hstretch, hmount,
    ⟨hmark.1, hmark.2, hperiod⟩, hlatency, hblank, rfl,
    pageAxis_legal (haxes .focus) (hmap .focus) (hschedule .focus),
    pageAxis_legal (haxes .iris) (hmap .iris) (hschedule .iris),
    pageAxis_legal (haxes .zoom) (hmap .zoom) (hschedule .zoom), hunits.1, hunits.2.1, hunits.2.2⟩

/-! ## Every step keeps the settings legal -/

theorem settingsOk_congr {s t : State} (h : s.settingsOk) (hp : t.sr.pendingCopy = s.sr.pendingCopy)
    (hi : t.sr.inForce = s.sr.inForce) : t.settingsOk :=
  ⟨fun a ha => h.1 a (hp.symm.trans ha), fun a ha => h.2 a (hi.symm.trans ha)⟩

/-- A pending copy that comes in force was legal. -/
theorem adoptPending_settingsOk {s : State} (h : s.settingsOk) : s.adoptPending.settingsOk := by
  cases ha : s.sr.pendingCopy with
  | none => rw [adoptPending_none ha]; exact h
  | some a =>
    obtain ⟨p, hsr⟩ := adoptPending_sr ha
    refine ⟨fun b hb => ?_, fun b hb => ?_⟩
    · rw [hsr] at hb; cases hb
    · rw [hsr] at hb; cases hb; exact h.1 a ha

theorem event_settingsOk {c : Instr} {s t : State} (h : eventOf c s = some t) (hs : s.settingsOk) : t.settingsOk := by
  by_cases hc : isControl c = true
  · rcases control_cases h hc with h | h | h | ⟨h, -⟩
    · obtain ⟨-, rfl⟩ := runCommand_spec h
      exact settingsOk_congr hs (by rw [sendBreak_frame]; rfl) (by rw [sendBreak_frame]; rfl)
    · obtain ⟨-, rfl⟩ := haltCommand_spec h
      exact hs
    · obtain ⟨-, rfl⟩ := sresetCommand_spec h
      exact ⟨nofun, nofun⟩
    · rw [h]; exact hs
  · by_cases hf : ∃ dt x, c = .frameStart dt x
    · obtain ⟨dt, x, rfl⟩ := hf
      obtain ⟨-, rfl⟩ := frameEdge_spec (x := x) h
      obtain ⟨hi, hp⟩ := beginLook_settings ((s.takesT0 x).adoptPending.frameOrNone s)
      rw [frameOrNone_sr] at hi hp
      exact settingsOk_congr (adoptPending_settingsOk (s := s.takesT0 x) hs) hp hi
    · obtain ⟨hi, hp⟩ := event_settings h (eq_false_of_ne_true hc) fun dt x k => hf ⟨dt, x, k⟩
      rcases hp with hp | ⟨a, p, extent, hp, ha, hpass⟩
      · exact settingsOk_congr hs hp hi
      · refine ⟨fun b hb => ?_, fun b hb => hs.2 b (hi.symm.trans hb)⟩
        cases hp.symm.trans hb
        rw [ha]
        exact pageSettings_legal hpass

theorem kept_settingsOk : Kept State.settingsOk where
  queue _ _ h := h
  time s dt h := settingsOk_congr h (by rw [elapse_frame]) (by rw [elapse_frame])
  reset _ _ := ⟨nofun, nofun⟩
  event _ s t hs h := by
    have hset := settle_settled t s
    exact settingsOk_congr (event_settingsOk h hs) (by rw [hset.sr]) (by rw [hset.sr])

/-- Settles O55: only a copy that no check refuses becomes pending, and only a pending copy comes in force. -/
theorem everyStepKeepsSettingsLegal : Obligations.EveryStepKeepsSettingsLegal := fun _ _ => kept_settingsOk.step

/-! ## The examination (R126 to R136) -/

theorem natWord_toNat (w : Word) : natWord w.toNat = w := by simp [natWord]

/-- Settles O30: the events are the model's; the checks are taken one by one, RANGE field by field. -/
theorem examinationReportsRefusesAndAccepts : Obligations.ExaminationReportsRefusesAndAccepts := by
  refine ⟨?_, ?_⟩
  · intro dt s sel seq u ends refused
    refine ⟨?_, ?_, ?_, ?_⟩
    · intro bad n he report
      refine ⟨fun hsel => ?_, fun h1 h2 => ?_⟩
      · refine exec_of_some (c := .examinationBegin dt) ?_
        change examinationBegins u = _
        simp only [examinationBegins, he, if_pos hsel]
        rfl
      · refine exec_of_some (c := .examinationBegin dt)
          (e := { ends (report ++ [(0x0009, sel), (0x0008, 17)]) .none with al := u.al.raise .refuse }) ?_
        change examinationBegins u = _
        simp only [examinationBegins, he, if_neg (not_or.2 ⟨h1, h2⟩), State.refuse, refusedReport, natWord_toNat,
          State.queueReport, State.withSr_sr, ends, ← List.append_assoc]
        rfl
    · intro ws k he
      refine exec_of_some (c := .pageCopyDone dt)
        (e := { ends [(0x0009, BitVec.ofNat 16 k), (0x0008, 16)] .none with al := u.al.raise .refuse }) ?_
      change copyDone u = _
      simp only [copyDone, he]
      rfl
    · intro ws r he hl hr
      refine exec_of_some (c := .pageCopyDone dt) (e := { ends [(0x0009, BitVec.ofNat 16 r.detail),
        (0x0008, BitVec.ofNat 16 r.code)] .none with al := u.al.raise .refuse }) ?_
      change copyDone u = _
      simp only [copyDone, he, Config.pageWords, hl, if_true, hr]
      rfl
    · intro ws he hl hr
      refine exec_of_some (c := .pageCopyDone dt) ?_
      change copyDone u = _
      simp only [copyDone, he, Config.pageWords, hl, if_true, hr]
      rfl
  · intro p extent sum word long block first room points axis c from' track own fields legal size ringLies baseLies
      baseApart extentApart layout inOrder apart units named
    have hb : ∀ x, block x = blockAt x := fun x => by cases x <;> rfl
    have hp : ∀ x, pagePoints p x = points x := fun x => (pagePoints_eq p x).trans (by cases x <;> rfl)
    have hmode : ∀ x, pageMode p x = (axis x).mode := fun x => by
      simp only [pageMode, axis, ← hb]
      change modeOf (word (block x)) = _
      generalize word (block x) = n
      rcases n with _ | _ | _ | n <;> rfl
    have haxis : ∀ x, pageAxis p x = axis x := fun x => by
      simp only [pageAxis, hmode, ← hb, hp]
      rfl
    have hrate : (if pageNat p 29 = 1 then LinkRate.fast else .slow) = c.linkRate := by
      change (if word 29 = 1 then LinkRate.fast else .slow) = _
      simp only [c]
      generalize word 29 = n
      rcases n with _ | _ | n <;> rfl
    have hschedule : (List.range 8).map (fun i => scheduleOf (pageNat p (33 + i))) = c.schedule := by
      refine Eq.trans (b := [33, 34, 35, 36, 37, 38, 39, 40].map fun i => scheduleOf (word i)) rfl ?_
      simp only [c]
      refine List.map_congr_left fun i _ => ?_
      generalize word i = n
      rcases n with _ | _ | _ | _ | n <;> rfl
    have hc : pageSettings p = c := by
      simp only [pageSettings, haxis, append_eq_ofNat, hrate, hschedule]
      rfl
    have hfields : TestsState (checkedFields p) fields :=
      (pageFields_state p).append ((axisFields_state p .focus).append ((axisFields_state p .iris).append
        ((axisFields_state p .zoom).append .nil)))
    have hlegal : rangeFailure p = none ↔ legal := (rangeFailure_none_iff p).trans hfields.all_iff
    have hmap : ∀ x, (pageSettings p).mapOrdered x ↔ inOrder x := fun x => by
      have hpoints : (c.axis x).points = points x := by cases x <;> rfl
      simp only [inOrder, Settings.mapOrdered, hc, mapInOrder_iff, hpoints]
    have hunits : (pageSettings p).unitsApart ↔ units := by rw [hc]; exact Iff.rfl
    have hnamed : ∀ x, (pageSettings p).scheduled x ↔ named x := fun x => by rw [hc]; exact Iff.rfl
    have hlies : (pageSettings p).ringLies ↔ ringLies := by rw [hc]; exact Iff.rfl
    have hbase : (pageSettings p).profileLies ↔ baseLies := by rw [hc]; exact Iff.rfl
    have happart : (pageSettings p).profileApart ↔ baseApart := by rw [hc]; exact Iff.rfl
    have hextent : (pageSettings p).extentApart extent ↔ extentApart := by rw [hc]; exact Iff.rfl
    have hlayout : layoutFailure (pageSettings p) extent = none ↔ layout := by
      simp only [layoutFailure_none_iff, hlies, hbase, happart, hextent]
      exact Iff.rfl
    have hperiod := periodFailure_spec (pageSettings p)
    have haddress := addressFailure_spec (pageSettings p)
    refine ⟨fun _ => hc, ?_, fun r hr => ?_⟩
    · rw [pageRefusal_none_iff, hlegal, hlayout, mapFailure_none_iff, haddress.1, hunits, scheduleFailure_none_iff,
        hperiod.1, forall_congr' hmap, forall_congr' hnamed, hc]
      exact Iff.rfl
    · obtain ⟨h18, hcode, h19, p19, h20, p20, h21, p21, h22, p22, h23, p23, h24⟩ := pageRefusal_code hr
      refine ⟨h18, hcode, fun k => ?_, fun k => hlegal.1 (p19 k), fun k => ?_, fun k => hlayout.1 (p20 k), fun k => ?_,
        fun k x => (hmap x).1 ((mapFailure_none_iff _).1 (p21 k) x), fun k => ?_,
        fun k => hunits.1 (haddress.1.1 (p22 k)), fun k => ?_,
        fun k x => (hnamed x).1 ((scheduleFailure_none_iff _).1 (p23 k) x), fun k => ?_⟩
      · obtain ⟨hfail, hbelow⟩ := rangeFailure_some (h19 k)
        exact ⟨(hfields.fails_iff _).1 hfail, (hfields.below_iff _).1 hbelow⟩
      · simp only [← hlies, ← hbase, ← happart, ← hextent]
        exact layoutFailure_some (h20 k)
      · simp only [← hmap]
        exact mapFailure_some (h21 k)
      · rcases haddress.2 _ (h22 k) with ⟨hd, hne | hne⟩ | ⟨hd, hne⟩ <;> rw [hc] at hd hne
        · exact ⟨.focus, .iris, hne, nofun, hd.symm⟩
        · exact ⟨.focus, .zoom, hne, nofun, hd.symm⟩
        · exact ⟨.iris, .zoom, hne, nofun, hd.symm⟩
      · simp only [← hnamed]
        exact scheduleFailure_some (h23 k)
      · have := hperiod.2 _ (h24 k)
        rw [hc] at this
        exact this

end Sys2Proof.Machine

/-! PROOFS. The checks of a profile: settles O31 and O32. -/

namespace Sys2Proof.Machine

/-! ## The header (R79) -/

/-- A profile at a span lies past the end of memory or shares a word with an area. -/
def misplaced (base n : Nat) (areas : List (Nat × Nat)) : Prop :=
  32768 < base + n ∨ ∃ a ∈ areas, base < a.1 + a.2 ∧ a.1 < base + n

theorem misplaced_iff (base n : Nat) (areas : List (Nat × Nat)) :
    (decide (Config.memoryWords < base + n) || areas.any (fun a => spansShare base n a.1 a.2)) = true ↔
      misplaced base n areas := by
  rw [Bool.or_eq_true, decide_eq_true_eq, List.any_eq_true]
  simp only [spansShare_iff]
  exact Iff.rfl

/-- The dimensions in their ranges (R75). -/
theorem shapeOk_iff (h : List Word) : shapeOk h = true ↔ (2 ≤ profNub h ∧ profNub h ≤ 32) ∧
    (1 ≤ profNz h ∧ profNz h ≤ 8) ∧ (2 ≤ profNuv h ∧ profNuv h ≤ 16) ∧ (1 ≤ profNa h ∧ profNa h ≤ 6) := by
  simp only [shapeOk, Bool.and_eq_true, within_iff, and_assoc]

section
variable {l : Load} {areas : List (Nat × Nat)}

theorem headerFailure_parity (h : l.parityFailed = true) : headerFailure l areas = some .parity := by
  simp [headerFailure, h]

theorem headerFailure_layout (h : l.parityFailed = false) (hm : misplaced l.base (profLength l.words) areas) :
    headerFailure l areas = some .layout := by
  unfold headerFailure
  dsimp only
  rw [h, if_neg Bool.false_ne_true, if_pos ((misplaced_iff _ _ _).2 hm)]

/-- A load that lies clear goes on to SERIAL and SHAPE. -/
theorem headerFailure_clear (h : l.parityFailed = false) (hm : ¬ misplaced l.base (profLength l.words) areas) :
    headerFailure l areas =
      if profSerial l.words ≠ l.serial then some .serial else if shapeOk l.words then none else some .shape := by
  unfold headerFailure
  dsimp only
  rw [h, if_neg Bool.false_ne_true, if_neg (mt (misplaced_iff _ _ _).1 hm)]
  cases shapeOk l.words <;> rfl

end

/-! ## The areas to stay clear of (R79) -/

/-- The ring area of a begin notice. -/
def BeginNotice.area (n : BeginNotice) : Nat × Nat := (n.ringBase, ringSize n.ringSlots n.bands)

/-- The area that an item of the Record Writer's queue begins a frame in. -/
def WorkItem.area : WorkItem → Option (Nat × Nat)
  | .opens n => some n.area
  | .record _ | .ends _ _ => none

/-- The area of the slot being judged. -/
def RwWork.area : RwWork → List (Nat × Nat)
  | .judging n _ _ _ | .judged n _ _ _ => [n.area]
  | _ => []

theorem ringAreas_eq (s : State) : s.ringAreas =
    s.settings.toList.map (fun c => (c.ringBase, ringSize c.ringSlots c.bands)) ++
    s.rw.openSlot.toList.map (fun o => (o.ringBase, ringSize o.ringSlots o.planned)) ++ s.rw.work.area ++
    s.rw.queue.filterMap WorkItem.area ++ s.ft.heldNotices.filterMap WorkItem.area := rfl

theorem mem_noticeAreas (q : List WorkItem) (x : Nat × Nat) :
    x ∈ q.filterMap WorkItem.area ↔ ∃ n, WorkItem.opens n ∈ q ∧ x = n.area := by
  rw [List.mem_filterMap]
  constructor
  · rintro ⟨w, hw, hx⟩
    cases w with
    | opens n => exact ⟨n, hw, (Option.some.inj hx).symm⟩
    | record r => cases hx
    | ends n b => cases hx
  · rintro ⟨n, hn, rfl⟩
    exact ⟨_, hn, rfl⟩

theorem mem_workArea (w : RwWork) (x : Nat × Nat) : x ∈ w.area ↔
    ∃ n, ((∃ i b k, w = .judging n i b k) ∨ (∃ i b k, w = .judged n i b k)) ∧ x = n.area := by
  constructor
  · intro h
    cases w with
    | judging n i b k => exact ⟨n, .inl ⟨i, b, k, rfl⟩, List.mem_singleton.1 h⟩
    | judged n i b k => exact ⟨n, .inr ⟨i, b, k, rfl⟩, List.mem_singleton.1 h⟩
    | _ => cases h
  · rintro ⟨n, ⟨i, b, k, rfl⟩ | ⟨i, b, k, rfl⟩, rfl⟩ <;> exact List.mem_singleton.2 rfl

theorem mem_ringAreas (s : State) (x : Nat × Nat) : x ∈ s.ringAreas ↔
    (∃ a, s.sr.inForce = some a ∧
      x = (a.settings.ringBase, ringSize a.settings.ringSlots a.settings.bands)) ∨
    (∃ o, s.rw.openSlot = some o ∧ x = (o.ringBase, ringSize o.ringSlots o.planned)) ∨
    (∃ n, (WorkItem.opens n ∈ s.rw.queue ∨ WorkItem.opens n ∈ s.ft.heldNotices ∨
        (∃ i b k, s.rw.work = .judging n i b k) ∨ (∃ i b k, s.rw.work = .judged n i b k)) ∧ x = n.area) := by
  have hforce : x ∈ s.settings.toList.map (fun c => (c.ringBase, ringSize c.ringSlots c.bands)) ↔
      ∃ a, s.sr.inForce = some a ∧ x = (a.settings.ringBase, ringSize a.settings.ringSlots a.settings.bands) := by
    cases h : s.sr.inForce <;> simp [State.settings, h]
  have hopen : x ∈ s.rw.openSlot.toList.map (fun o => (o.ringBase, ringSize o.ringSlots o.planned)) ↔
      ∃ o, s.rw.openSlot = some o ∧ x = (o.ringBase, ringSize o.ringSlots o.planned) := by
    cases h : s.rw.openSlot <;> simp
  rw [ringAreas_eq]
  simp only [List.mem_append, hforce, hopen, mem_workArea, mem_noticeAreas, or_and_right, exists_or, or_assoc]
  rw [← eq_iff_iff]
  ac_rfl

/-! ## The body (R80) -/

/-- A position list in shape: 0 alone, or from 0 to 65,535 and rising strictly. -/
theorem positionsOk_iff (xs : List Nat) : positionsOk xs = true ↔ xs = [0] ∨
    (xs.length ≠ 1 ∧ xs.head? = some 0 ∧ xs.getLast? = some 65535 ∧ xs.Pairwise (· < ·)) := by
  unfold positionsOk
  split
  · rename_i h
    simp [h]
  · rename_i h
    have hne : xs ≠ [0] := by rintro rfl; exact h rfl
    rw [Bool.and_eq_true, Bool.and_eq_true, beq_iff_eq, beq_iff_eq, neighbours_iff_pairwise]
    · simp only [decide_eq_true_eq, hne, h, false_or, ne_eq, not_false_eq_true, true_and, and_assoc]
    · intro a b c
      simp only [decide_eq_true_eq]
      omega

theorem nodesOk_iff (p : List Word) : nodesOk p = true ↔
    (∀ n < profNub p * profNz p, (8192 ≤ breathingNode p n 0 ∧ breathingNode p n 0 ≤ 32767) ∧
      (8192 ≤ breathingNode p n 1 ∧ breathingNode p n 1 ≤ 32767)) ∧
    (∀ n < profNuv p * profNz p * profNa p, ∀ k < 3,
      -16384 ≤ shadingNode p n k ∧ shadingNode p n k ≤ 16383) := by
  simp only [nodesOk, magnificationOk, coefficientOk, Bool.and_eq_true, List.all_eq_true, List.mem_range, decide_eq_true_eq]

theorem listsOk_iff (p : List Word) :
    [profZoom p, profBreathingFocus p, profShadingFocus p, profIris p].all positionsOk = true ↔
      positionsOk (profZoom p) = true ∧ positionsOk (profBreathingFocus p) = true ∧
      positionsOk (profShadingFocus p) = true ∧ positionsOk (profIris p) = true := by
  simp only [List.all_cons, List.all_nil, Bool.and_eq_true, and_true]

section
variable {l : Load}

theorem bodyFailure_parity (h : l.parityFailed = true) : bodyFailure l = some .parity := by
  simp [bodyFailure, h]

/-- Without a parity failure the lists, the nodes and the sum are judged in this order. -/
theorem bodyFailure_words (h : l.parityFailed = false) : bodyFailure l =
    if [profZoom l.words, profBreathingFocus l.words, profShadingFocus l.words, profIris l.words].all positionsOk then
      if nodesOk l.words then if wordSum l.words = 0 then none else some .check else some .range
    else some .shape := by
  unfold bodyFailure
  dsimp only
  rw [h, if_neg Bool.false_ne_true]
  cases [profZoom l.words, profBreathingFocus l.words, profShadingFocus l.words, profIris l.words].all positionsOk with
  | false => rfl
  | true =>
    cases nodesOk l.words with
    | false => rfl
    | true =>
      by_cases hs : wordSum l.words = 0
      · simp [hs]
      · simp [hs]

end

/-! ## How a load ends (R81, R82) -/

/-- The loader when a load has become the store. -/
def ProfileLoader.finished (pl : ProfileLoader) (l : Load) (st : ProfileState) : ProfileLoader :=
  { pl with
    st := st, store := l.words, load := none, awaiting := false
    loaded := some { base := l.base, serial := profSerial l.words, extent := profLength l.words } }

theorem loadFinishes_ready {s : State} {l : Load} (hm : s.ms.mount = .present) (hd : l.detached = false) :
    s.loadFinishes l = { s with
      pl := s.pl.finished l .ready, be := { engine := s.be.engine.markStale, held := Held.none }
      ma := { s.ma with reqPl := none }, al := s.al.raise .profile } := by
  rw [State.loadFinishes, if_pos ⟨hm, by rw [hd]; exact Bool.false_ne_true⟩]
  rfl

theorem loadFinishes_unbound {s : State} {l : Load} (h : s.ms.mount = .absent ∨ l.detached = true) :
    s.loadFinishes l = { s with
      pl := s.pl.finished l .unbound, ma := { s.ma with reqPl := none }, al := s.al.raise .profile } := by
  have hno : ¬ (s.ms.mount = .present ∧ ¬ l.detached = true) := by
    rcases h with h | h <;> simp [h]
  rw [State.loadFinishes, if_neg hno]
  rfl

/-- Settles O31: the event fails the load or enters BODY; the checks of the header go one by one. -/
theorem profileHeaderIsChecked : Obligations.ProfileHeaderIsChecked := by
  refine ⟨?_, ?_, fun s x => mem_ringAreas s x⟩
  · intro dt s l u hl hp hw
    refine ⟨fun why hf => ?_, fun hf => ?_⟩
    · refine exec_settled (c := .profileHeaderFetched dt) ?_
      change headerFetched u = _
      simp only [headerFetched, hl, if_pos (And.intro hp hw), hf]
      rfl
    · refine exec_settled (c := .profileHeaderFetched dt) ?_
      change headerFetched u = _
      simp only [headerFetched, hl, if_pos (And.intro hp hw), hf]
      rfl
  · intro l areas dim n serial ismisplaced shaped
    refine ⟨rfl, rfl, headerFailure_parity, fun h => ⟨headerFailure_layout h, fun hm hs => ?_, fun hm hs => ?_⟩⟩
    · rw [headerFailure_clear h hm, if_pos (show profSerial l.words ≠ l.serial from hs)]
    · rw [headerFailure_clear h hm, if_neg (not_not.2 (show profSerial l.words = l.serial from hs))]
      have hshape : shapeOk l.words = true ↔ shaped := shapeOk_iff _
      by_cases hok : shapeOk l.words = true
      · rw [if_pos hok, if_pos (hshape.1 hok)]
      · rw [if_neg hok, if_neg (mt hshape.2 hok)]

/-- Settles O32: the event fails the load, lets it wait, or finishes it; the checks of the body go one by one. -/
theorem profileBodyIsChecked : Obligations.ProfileBodyIsChecked := by
  refine ⟨?_, ?_⟩
  · intro dt s l u hl hp hw aged finished
    have hbusy : ∀ e : Engine, (∀ b, e ≠ .computing b) → e.busy = false ∧ e.markStale = aged e := fun e he => by
      cases e with
      | idle => exact ⟨rfl, rfl⟩
      | computing b => exact absurd rfl (he b)
      | handingOver b r => exact ⟨rfl, rfl⟩
    refine ⟨fun why hf => ?_, fun b hf he => ?_, fun hf he hm hd => ?_, fun hf he hm => ?_⟩
    · refine exec_settled (c := .profileBodyFetched dt) ?_
      change bodyFetched u = _
      simp only [bodyFetched, hl, if_pos (And.intro hp hw), hf]
      rfl
    · refine exec_settled (c := .profileBodyFetched dt) ?_
      change bodyFetched u = _
      simp only [bodyFetched, hl, if_pos (And.intro hp hw), hf, he]
      rfl
    · refine exec_settled (c := .profileBodyFetched dt) ?_
      change bodyFetched u = _
      obtain ⟨hidle, haged⟩ := hbusy _ he
      simp only [bodyFetched, hl, if_pos (And.intro hp hw), hf, hidle, Bool.false_eq_true, if_false]
      rw [loadFinishes_ready hm hd, haged]
      rfl
    · refine exec_settled (c := .profileBodyFetched dt) ?_
      change bodyFetched u = _
      obtain ⟨hidle, -⟩ := hbusy _ he
      simp only [bodyFetched, hl, if_pos (And.intro hp hw), hf, hidle, Bool.false_eq_true, if_false]
      rw [loadFinishes_unbound hm]
      rfl
  · intro l p rises lists magnified gained ranged
    have hlists : [profZoom p, profBreathingFocus p, profShadingFocus p, profIris p].all positionsOk = true ↔ lists := by
      rw [listsOk_iff]
      simp only [positionsOk_iff]
      exact Iff.rfl
    have hranged : nodesOk p = true ↔ ranged := nodesOk_iff p
    refine ⟨bodyFailure_parity, fun h => ⟨fun hn => ?_, fun hy hn => ?_, fun hy hr => ?_⟩⟩
    · rw [bodyFailure_words h, if_neg (mt hlists.1 hn)]
    · rw [bodyFailure_words h, if_pos (hlists.2 hy), if_neg (mt hranged.1 hn)]
    · rw [bodyFailure_words h, if_pos (hlists.2 hy), if_pos (hranged.2 hr)]
      rfl

end Sys2Proof.Machine

/-! PROOFS. The samples of the mount: settles O34. -/

namespace Sys2Proof.Machine

/-! ## Restarts and broken MARKs -/

theorem restartedAxes_twice (s : State) (b c : Blanking) :
    ({ s with axes := s.restartedAxes b } : State).restartedAxes c = s.restartedAxes c := by
  refine Axes.ext_get fun x => ?_
  rw [restartedAxes_get, restartedAxes_get s c]
  change restartedAxis (s.tracks x) c ((s.restartedAxes b).get x) = _
  rw [restartedAxes_get]
  cases s.tracks x <;> rfl

/-- A restarted axis is not LOST. -/
theorem someTrackLost_restarted (s : State) (b : Blanking) :
    ({ s with axes := s.restartedAxes b } : State).someTrackLost = false := by
  rw [← Bool.not_eq_true, someTrackLost_iff]
  rintro ⟨x, ht, hlost⟩
  have ht : s.tracks x = true := beq_iff_eq.2 ht
  change ((s.restartedAxes b).get x).st = .lost at hlost
  rw [restartedAxes_get, ht] at hlost
  cases hlost

/-- An axis whose last completion is BREAK keeps it when another MARK ends. -/
theorem markBroken_keeps {s : State} {axes : Axes} {x : Axis} (m : Option (Axis × Nat))
    (h : (axes.get x).lastCompletion = .broken) : ((s.markBroken m axes).get x).lastCompletion = .broken := by
  unfold State.markBroken
  split
  · rename_i y n
    split
    · by_cases hxy : x = y
      · subst hxy; rw [Axes.get_set_same]
      · rw [Axes.get_set_other _ _ _ _ hxy]; exact h
    · exact h
  · exact h

/-- BREAK is delivered to the axis of the transaction in flight that is still in TRACK on its unit. -/
theorem marksBroken_broken {s : State} {m : Transaction} (axes : Axes) (h : s.lc.trans = some m)
    (ht : s.tracks m.axis = true) (hu : s.unit m.axis = m.unit) :
    ((s.marksBroken axes).get m.axis).lastCompletion = .broken := by
  refine markBroken_keeps _ ?_
  rw [h, Option.map_some, State.markBroken, if_pos ⟨ht, hu⟩, Axes.get_set_same]

/-! ## Detach (R34, R93, R116) -/

/-- What a detach does to all but the link's break. -/
def State.unmounted (s : State) (b : Blanking) : State := { s with
  ms := { s.ms with mount := .absent }, al := (s.al.raise .lens).raiseWhen s.someTrackLost .axis
  axes := s.restartedAxes b, pl := s.pl.detach }

theorem detach_spec (s : State) : s.detach =
    (s.unmounted (if s.lc.breakOnWire then .pending s.blankTime else .until s.blankUntil)).breakForDetach := by
  simp only [State.detach]
  rw [axesDetach_spec]
  rfl

/-- Where no break is sent. -/
def Link.NoBreak (lc : Link) : Prop := lc.st = .off ∨ lc.st = .stuck

/-- Where the wire carries a break. -/
def Link.BreakHeld (lc : Link) : Prop :=
  (lc.st = .breakTx ∧ lc.breakEnd ≠ none) ∨ (lc.st = .breakRx ∧ lc.breakOver = false)

/-- Where a detach sends a break: an active link, or the wait after a break. -/
def Link.BreakSent (lc : Link) : Prop :=
  lc.st = .idle ∨ lc.st = .sending ∨ lc.st = .awaitReply ∨ lc.st = .receiving ∨
    (lc.st = .breakTx ∧ lc.breakEnd = none) ∨ (lc.st = .breakRx ∧ lc.breakOver = true)

theorem detach_noBreak {s : State} (h : s.lc.NoBreak) : s.detach = s.unmounted (.until s.blankUntil) := by
  rw [detach_spec]
  rcases h with h | h <;> simp only [Link.breakOnWire, State.breakForDetach, State.unmounted, h] <;> rfl

theorem detach_held {s : State} (h : s.lc.BreakHeld) : s.detach = s.unmounted (.pending s.blankTime) := by
  rw [detach_spec]
  rcases h with ⟨h, hb⟩ | ⟨h, hb⟩
  · have hsome : s.lc.breakEnd.isSome = true := Option.isSome_iff_ne_none.2 hb
    simp only [Link.breakOnWire, State.breakForDetach, State.unmounted, h, hsome, if_true]
  · simp only [Link.breakOnWire, State.breakForDetach, State.unmounted, h, hb, Bool.not_false, if_true]

/-- The break ends the MARKs, and the TRACK axes start again with it pending. -/
theorem detach_sent {s : State} (h : s.lc.BreakSent) : s.detach = { s.unmounted (.pending s.blankTime) with
    axes := s.marksBroken (s.restartedAxes (.pending s.blankTime))
    lc := { s.lc with
      trans := none, waiting := none, rx := none, st := .breakTx, tick := none, reading := none, dominant := none,
      breakEnd := some (s.clk.tb + s.bits 40), breakOver := false } } := by
  have hwire : s.lc.breakOnWire = false := by
    rcases h with h | h | h | h | ⟨h, hb⟩ | ⟨h, hb⟩ <;> simp [Link.breakOnWire, h] <;> simp [hb]
  have hsend : (s.unmounted (.until s.blankUntil)).breakForDetach = (s.unmounted (.until s.blankUntil)).sendBreak := by
    have hlc : (s.unmounted (.until s.blankUntil)).lc = s.lc := rfl
    rcases h with h | h | h | h | ⟨h, -⟩ | ⟨h, -⟩ <;> simp [State.breakForDetach, hlc, h, hwire]
  rw [detach_spec, hwire, if_neg Bool.false_ne_true, hsend, sendBreak_spec]
  have hlost : (s.unmounted (.until s.blankUntil)).someTrackLost = false := someTrackLost_restarted s _
  have haxes : (s.unmounted (.until s.blankUntil)).restartedAxes (.pending s.blankTime) =
      s.restartedAxes (.pending s.blankTime) := restartedAxes_twice s _ _
  rw [hlost]
  change _ = ({ s.unmounted (.pending s.blankTime) with
    axes := s.marksBroken (s.restartedAxes (.pending s.blankTime)), lc := _ } : State)
  rw [← haxes]
  rfl

/-! ## Samples (R90 to R94) -/

theorem lensSampled_due {s : State} {lens : Level} (hr : s.clk.resetn = true) (ht : reached s.clk.tb s.ms.timer = true) :
    s.lensSampled lens = match s.ms.lastRaw with
      | none => some ((s.withMs { s.ms with timer := s.clk.tb + micros s.mountPeriod }).firstSample lens)
      | some last => some ((s.withMs { s.ms with timer := s.clk.tb + micros s.mountPeriod }).laterSample last lens) := by
  have hdue : (s.clk.resetn && reached s.clk.tb s.ms.timer) = true := by rw [hr, ht]; rfl
  unfold State.lensSampled
  cases s.ms.lastRaw <;> exact if_pos hdue

/-- A sample that neither attaches nor detaches. -/
theorem laterSample_keeps {s : State} {last lens : Level}
    (h : lens ≠ last ∨ (lens = .high ∧ s.ms.mount = .present) ∨ (lens = .low ∧ s.ms.mount = .absent)) :
    s.laterSample last lens = s.withMs { s.ms with lastRaw := some lens } := by
  unfold State.laterSample
  dsimp only
  split
  · rename_i hm
    rcases h with h | ⟨-, h⟩ | ⟨h, -⟩
    · exact absurd rfl h
    · exact nomatch hm.symm.trans h
    · cases h
  · rename_i hm
    rcases h with h | ⟨h, -⟩ | ⟨-, h⟩
    · exact absurd rfl h
    · cases h
    · exact nomatch hm.symm.trans h
  · rfl

/-- Settles O34: the sample's branch is picked by the samples and the mount, a detach's by the link. -/
theorem mountSampleDebouncesTheMount : Obligations.MountSampleDebouncesTheMount := by
  intro dt lens s u
  refine ⟨fun hno => ?_, fun hr ht => ?_⟩
  · refine exec_of_none (c := .mountSample dt lens) nofun ?_
    change u.lensSampled lens = none
    simp [State.lensSampled, hno]
  · intro next
    have hdue := lensSampled_due (lens := lens) hr ht
    have hlater : ∀ {last e}, u.ms.lastRaw = some last →
        (u.withMs { u.ms with timer := next }).laterSample last lens = e →
        exec (.mountSample dt lens) s = .next (e.settle u) := fun {last e} hl he =>
      exec_of_some (c := .mountSample dt lens) (by
        change u.lensSampled lens = _
        rw [hdue, hl, ← he])
    refine ⟨fun hl => ?_, fun hl hh hm => ?_, fun hl hh hm => ?_, fun last hl hk => ?_⟩
    · refine exec_of_some (c := .mountSample dt lens) ?_
      change u.lensSampled lens = _
      rw [hdue, hl]
      cases lens <;> rfl
    · subst hh
      refine hlater hl ?_
      simp only [State.laterSample, State.withMs_ms, hm]
      rfl
    · subst hh
      intro brief held sends detached
      have hsample : ∀ e, (u.withMs { u.ms with timer := next, lastRaw := some .low }).detach = e →
          exec (.mountSample dt .low) s = .next (e.settle u) := fun e he => by
        refine hlater hl (Eq.trans ?_ he)
        simp only [State.laterSample, State.withMs_ms, hm]
        rfl
      have hd : ∀ b, (u.withMs { u.ms with timer := next, lastRaw := some .low }).unmounted b = detached b := fun b => by
        have hpl : (detached b).pl = u.pl.detach := by
          simp only [detached]
          cases h : u.pl.st <;> simp [ProfileLoader.detach, h]
        have hdetached : detached b = { u with
          ms := { mount := .absent, lastRaw := some .low, timer := next }
          al := (u.al.raise .lens).raiseWhen u.someTrackLost .axis, axes := u.restartedAxes b
          pl := (detached b).pl } := rfl
        rw [hdetached, hpl]
        rfl
      have hsent := fun hs : sends => (detach_sent (s := u.withMs { u.ms with timer := next, lastRaw := some .low })
        (show u.lc.BreakSent from hs)).trans (by rw [hd])
      refine ⟨fun hoff => hsample _ ?_, fun hheld => hsample _ ?_, fun hs => hsample _ (hsent hs),
        fun m a hs hm hf htrack hunit => ?_⟩
      · exact (detach_noBreak (s := u.withMs { u.ms with timer := next, lastRaw := some .low }) hoff).trans (hd _)
      · exact (detach_held (s := u.withMs { u.ms with timer := next, lastRaw := some .low }) hheld).trans (hd _)
      · have hset := settle_settled ((u.withMs { u.ms with timer := next, lastRaw := some .low }).detach) u
        rw [hsent hs] at hset
        have hmode : u.mode m.axis = .track := by simp only [State.mode, hf, htrack]
        have hone : u.unit m.axis = m.unit := by simp only [State.unit, hf, hunit]
        have htracks : u.tracks m.axis = true := by rw [State.tracks, hmode]; rfl
        have hblank : u.blankTime = a.settings.blankTime := by simp only [State.blankTime, hf]
        obtain ⟨c, hc, -⟩ := marksBroken_get u (u.restartedAxes (.pending u.blankTime)) m.axis
        have hbroken := marksBroken_broken (u.restartedAxes (.pending u.blankTime)) hm htracks hone
        rw [restartedAxes_get, htracks, hblank] at hc
        refine ⟨_, hsample _ (hsent hs), ?_⟩
        rw [hset.ms, hset.lc, hset.axes]
        refine ⟨rfl, rfl, rfl, rfl, rfl, rfl, hbroken, ?_⟩
        change ((u.marksBroken (u.restartedAxes (.pending u.blankTime))).get m.axis).st = .seeking ∧
          ((u.marksBroken (u.restartedAxes (.pending u.blankTime))).get m.axis).track = [] ∧
          ((u.marksBroken (u.restartedAxes (.pending u.blankTime))).get m.axis).blanking = _
        rw [hblank, hc]
        exact ⟨rfl, rfl, rfl⟩
    · refine hlater hl ?_
      rw [laterSample_keeps (s := u.withMs { u.ms with timer := next }) hk]
      rfl

end Sys2Proof.Machine

/-! PROOFS. The mark tick: settles O38. -/

namespace Sys2Proof.Machine

/-! ## The schedule slot (R110) -/

theorem tracks_inForce {s : State} {a : Adopted} (h : s.sr.inForce = some a) (x : Axis) :
    s.tracks x = true ↔ (a.settings.axis x).mode = .track := by
  simp only [State.tracks, State.mode, h, beq_iff_eq]

theorem scheduledAxis_iff {s : State} {a : Adopted} (h : s.sr.inForce = some a) (x : Axis) :
    s.scheduledAxis = some x ↔
      a.settings.schedule[s.lc.pointer]? = some (some x) ∧ (a.settings.axis x).mode = .track := by
  have hget : a.settings.schedule.getD s.lc.pointer none = some x ↔
      a.settings.schedule[s.lc.pointer]? = some (some x) := by
    rw [List.getD_eq_getElem?_getD]
    cases a.settings.schedule[s.lc.pointer]? <;> simp
  simp only [State.scheduledAxis, h, Option.filter_eq_some_iff, hget, tracks_inForce h]

/-! ## Joining a LEAD (R100) -/

/-- Of fewer than three bits only dominant ones agree with a LEAD. -/
theorem leadOk_short {r : Reading} (h : r.bits.length < 3) : r.leadOk = true ↔ ∀ b ∈ r.bits, b = false := by
  obtain ⟨start, bits⟩ := r
  match bits, h with
  | [], _ => exact ⟨fun _ _ => nofun, fun _ => rfl⟩
  | [a], _ => cases a <;> simp [Reading.leadOk, leadBits]
  | [a, b], _ => cases a <;> cases b <;> simp [Reading.leadOk, leadBits]

theorem canJoin_iff (s : State) (f : RxFrame) (r : Reading) : s.canJoin f r = true ↔
    (f.joinable = true ∧ f.interpreted = true ∧ f.replied = false) ∧ s.wire.level = .low ∧ r.bits.length < 3 ∧
      ∀ b ∈ r.bits, b = false := by
  simp only [State.canJoin, Bool.and_eq_true, Bool.not_eq_true', beq_iff_eq, decide_eq_true_eq, and_assoc]
  constructor
  · rintro ⟨hj, hi, hr, hw, hl, hb⟩
    exact ⟨hj, hi, hr, hw, hl, (leadOk_short hl).1 hb⟩
  · rintro ⟨hj, hi, hr, hw, hl, hb⟩
    exact ⟨hj, hi, hr, hw, hl, (leadOk_short hl).2 hb⟩

/-- Another node's LEAD that a MARK can join now, with its reading. -/
def State.Joins (s : State) (r : Reading) : Prop := s.lc.st = .receiving ∧ s.lc.reading = some r ∧
  (∃ f, s.lc.rx = some f ∧ f.joinable = true ∧ f.interpreted = true ∧ f.replied = false) ∧
  s.wire.level = .low ∧ r.bits.length < 3 ∧ ∀ b ∈ r.bits, b = false

theorem markDue_joins {s : State} {r : Reading} (x : Axis) (unit : Nat) (h : s.Joins r) :
    s.markDue x unit = s.startMark x unit r := by
  obtain ⟨hst, hr, ⟨f, hf, hjoin⟩, hw, hl, hb⟩ := h
  simp only [State.markDue, hst, hf, hr, if_pos ((canJoin_iff s f r).2 ⟨hjoin, hw, hl, hb⟩)]

theorem markDue_idle {s : State} (x : Axis) (unit : Nat) (h : s.lc.st = .idle) :
    s.markDue x unit = s.startMark x unit s.ownLead := by
  simp only [State.markDue, h]

/-- A MARK that cannot start waits. -/
theorem markDue_waits {s : State} (x : Axis) (unit : Nat)
    (h : s.lc.st = .sending ∨ s.lc.st = .awaitReply ∨ s.lc.st = .receiving) (hj : ∀ r, ¬ s.Joins r) :
    s.markDue x unit = s.withLc { s.lc with waiting := some (x, unit) } := by
  rcases h with h | h | h
  · simp only [State.markDue, h]
  · simp only [State.markDue, h]
  · simp only [State.markDue, h]
    split
    · rename_i f r hf hr
      refine if_neg fun hc => hj r ?_
      obtain ⟨hjoin, hw, hl, hb⟩ := (canJoin_iff s f r).1 hc
      exact ⟨h, hr, ⟨f, hf, hjoin⟩, hw, hl, hb⟩
    · rfl

/-! ## The tick (R109 to R111) -/

/-- The link when a tick has dropped what waited and moved the pointer. -/
def State.tickedLink (s : State) (a : Adopted) : Link := { s.lc with
  pointer := (s.lc.pointer + 1) % 8, tick := some (s.clk.tb + micros a.settings.markPeriod), waiting := none }

section
variable {s : State} {t0 : Time} {a : Adopted} {axes : Axes}

/-- What a tick does, with what a dropped MARK left of the axes. -/
theorem markTicked_spec (ht : s.lc.tick = some t0) (hr : reached s.clk.tb t0 = true) (ha : s.sr.inForce = some a)
    (hd : s.dropWaiting = { s with axes := axes, lc := { s.lc with waiting := none } }) :
    markTicked s = some (match s.scheduledAxis with
      | some x => ({ s with axes := axes, lc := s.tickedLink a } : State).markDue x (a.settings.axis x).unit
      | none => { s with axes := axes, lc := s.tickedLink a }) := by
  have hslot : s.dropWaiting.scheduledAxis = s.scheduledAxis := by rw [hd]; rfl
  have htick : s.dropWaiting.nextTick = some (s.clk.tb + micros a.settings.markPeriod) := by
    rw [hd]; simp only [State.nextTick, ha]
  have hunit : ∀ v : State, v.sr.inForce = some a → ∀ x, v.unit x = (a.settings.axis x).unit := fun v hv x => by
    simp only [State.unit, hv]
  simp only [markTicked, ht, if_pos hr, htick, hslot]
  rw [hd]
  cases s.scheduledAxis with
  | none => rfl
  | some x =>
    dsimp only
    rw [hunit _ (by exact ha)]
    rfl

theorem dropWaiting_none (h : s.lc.waiting = none) :
    s.dropWaiting = { s with axes := s.axes, lc := { s.lc with waiting := none } } := by
  simp only [State.dropWaiting, h]
  rw [← h]

/-- SKIPPED is taken by the axis that is still in TRACK on its unit. -/
theorem dropWaiting_skipped {x : Axis} {n : Nat} (h : s.lc.waiting = some (x, n)) (ha : s.sr.inForce = some a)
    (hm : (a.settings.axis x).mode = .track) (hu : (a.settings.axis x).unit = n) :
    s.dropWaiting = { s with
      axes := s.axes.set x { s.axes.get x with lastCompletion := .skipped }, lc := { s.lc with waiting := none } } := by
  simp only [State.dropWaiting, h]
  exact deliver_noted (s.withLc { s.lc with waiting := none }) a x n .skipped none ha hm hu (.inr (.inl rfl))

theorem dropWaiting_discarded {x : Axis} {n : Nat} (h : s.lc.waiting = some (x, n)) (ha : s.sr.inForce = some a)
    (hno : (a.settings.axis x).mode ≠ .track ∨ (a.settings.axis x).unit ≠ n) :
    s.dropWaiting = { s with axes := s.axes, lc := { s.lc with waiting := none } } := by
  simp only [State.dropWaiting, h]
  exact deliver_discarded (s.withLc { s.lc with waiting := none }) a x n .skipped none ha hno

end

/-- Settles O38: a tick drops what waits, reads the slot, and its MARK starts, joins or waits. -/
theorem markTickStartsOrSkipsAMark : Obligations.MarkTickStartsOrSkipsAMark := by
  intro dt s t0 a u ht hr ha mode unit names next sending waits joins ticks
  have hnamed : ∀ {axes}, u.dropWaiting = { u with axes := axes, lc := { u.lc with waiting := none } } →
      ∀ x, names x → ∀ e, ({ u with axes := axes, lc := next } : State).markDue x (unit x) = e →
      ∃ t, exec (.markTick dt) s = .next t ∧ Settled e t := fun hd x hx e he => by
    refine exec_settled (c := .markTick dt) ?_
    change markTicked u = _
    rw [markTicked_spec ht hr ha hd, (scheduledAxis_iff ha x).2 hx, ← he]
    rfl
  have hticks : ∀ {axes}, u.dropWaiting = { u with axes := axes, lc := { u.lc with waiting := none } } →
      ticks axes := fun {axes} hd => by
    have hjoins : ∀ r, ({ u with axes := axes, lc := next } : State).Joins r ↔ joins r := fun r => Iff.rfl
    refine ⟨fun x r hx hj => hnamed hd x hx _ ?_, fun x hx hst hj => hnamed hd x hx _ ?_, fun hno => ?_⟩
    · exact markDue_joins x (unit x) ((hjoins r).2 hj)
    · exact markDue_waits x (unit x) hst fun r => mt (hjoins r).1 (hj r)
    · refine exec_settled (c := .markTick dt) ?_
      change markTicked u = _
      have hslot : u.scheduledAxis = none := Option.eq_none_iff_forall_ne_some.2 fun x hx =>
        hno x ((scheduledAxis_iff ha x).1 hx)
      rw [markTicked_spec ht hr ha hd, hslot]
      rfl
  refine ⟨fun hw => ⟨hticks (dropWaiting_none hw), fun x hx hst => ?_⟩, fun x n hw => ⟨fun hm hu => ?_, fun hno => ?_⟩⟩
  · exact hnamed (dropWaiting_none hw) x hx _
      (markDue_idle (s := { u with axes := u.axes, lc := next }) x (unit x) hst)
  · exact hticks (dropWaiting_skipped hw ha hm hu)
  · exact hticks (dropWaiting_discarded hw ha hno)

end Sys2Proof.Machine

/-! PROOFS. The MARK transaction: settles O39 to O42. -/

namespace Sys2Proof.Machine

/-! ## The transaction in flight -/

theorem inTransaction_of {s : State} {m : Transaction} {st : LinkState} (h : s.lc.trans = some m) (hs : s.lc.st = st) :
    s.inTransaction st = some m := by
  rw [State.inTransaction, if_pos hs, h]

theorem fault_axis (m : Transaction) (c : Completion) : (m.fault c).axis = m.axis ∧ (m.fault c).unit = m.unit := by
  unfold Transaction.fault
  split <;> exact ⟨rfl, rfl⟩

theorem fault_of_ok {m : Transaction} (h : m.code = .ok) (c : Completion) : m.fault c = { m with code := c } := by
  rw [Transaction.fault, if_pos h]

/-- The completion of a transaction whose axis has changed its mode or unit is discarded (R25). -/
theorem endTransaction_discarded {s : State} {a : Adopted} {m : Transaction} (ha : s.sr.inForce = some a)
    (h : ¬ ((a.settings.axis m.axis).mode = .track ∧ (a.settings.axis m.axis).unit = m.unit)) :
    s.endTransaction m = ({ s with lc := { s.lc with trans := none } } : State).linkFree := by
  have hno : (a.settings.axis m.axis).mode ≠ .track ∨ (a.settings.axis m.axis).unit ≠ m.unit := by tauto
  exact congrArg State.linkFree
    (deliver_discarded (s.withLc { s.lc with trans := none }) a m.axis m.unit m.code m.carried ha hno)

/-- The completion of a transaction is taken by its axis (R25). -/
theorem endTransaction_taken {s : State} {a : Adopted} {m : Transaction} (ha : s.sr.inForce = some a)
    (hm : (a.settings.axis m.axis).mode = .track) (hu : (a.settings.axis m.axis).unit = m.unit) :
    s.endTransaction m = ({ s with
      lc := { s.lc with trans := none }
      axes := s.axes.set m.axis
        ((s.axes.get m.axis).complete (trackCap m.axis) (a.settings.axis m.axis) m.code m.carried)
      al := s.al.raiseWhen (lostCrossed (s.axes.get m.axis)
        ((s.axes.get m.axis).complete (trackCap m.axis) (a.settings.axis m.axis) m.code m.carried)) .axis } :
      State).linkFree :=
  congrArg State.linkFree
    (deliver_taken (s.withLc { s.lc with trans := none }) a m.axis m.unit m.code m.carried ha hm hu)

/-! ## END-OF-DATA and the reply window (R103, R104) -/

theorem latency_inForce {s : State} {a : Adopted} (h : s.sr.inForce = some a) : s.latency = a.settings.linkLatency := by
  simp only [State.latency, h]

/-- A falling edge in AWAIT_REPLY: at or before the close of the window it is the REPLY-LEAD. -/
theorem fall_awaiting {s : State} {m : Transaction} {w : Time} (recessive : Nat)
    (hs : s.lc.st = .awaitReply) (hm : s.lc.trans = some m) (hw : m.windowAt = some w) :
    s.fall recessive = if later s.clk.tb (w + s.bits 4) then
      s.withLc { s.lc with dominant := some { length := 0, bound := s.atBound } }
      else (s.withLc { s.lc.replyLead s.clk.tb with st := .receiving }).markField .linkState := by
  simp only [State.fall, hs, hm, hw]

theorem edge_falls {s : State} (hr : s.clk.resetn = true) (hl : s.wire.level = .high) :
    s.edge = (s.withWire { s.wire with level := .low, age := 0 }).fall s.recessive := by
  simp only [State.edge, hl, hr, if_true]

theorem windowCloses_due {s : State} {m : Transaction} {w : Time} (hm : s.lc.trans = some m) (hs : s.lc.st = .awaitReply)
    (hw : m.windowAt = some w) (hdue : reached s.clk.tb (w + micros (4 * s.rate.tau)) = true) :
    windowCloses s = some (s.endTransaction (m.fault .noReply)) := by
  simp only [windowCloses, inTransaction_of hm hs, hw]
  exact if_pos hdue

/-- Settles O39: the end of the data, the close of the window, and the edge in it. -/
theorem endOfDataAndReplyWindow : Obligations.EndOfDataAndReplyWindow := by
  refine ⟨?_, fun s m w hr hl hs hm hw => ?_⟩
  · intro dt s m a u hm ha mine awaiting
    refine ⟨fun r hs hr hbits hinto => ?_, fun r hs hr hinto => ?_, fun w hs hw hno => ?_, fun w hs hw hno hmine => ?_,
      fun w hs hw hok hdue hmine => ?_⟩
    · have hended : dataEnded u = match u.wire.level with
          | .high => some (u.withLc awaiting)
          | .low => some (u.withLc { awaiting with
              st := .receiving, reading := some u.readingSinceFall
              dominant := some { length := u.held, bound := u.levelBegan r 30 } }) := by
        simp only [dataEnded, inTransaction_of hm hs, hr, 
          if_pos (And.intro (show r.bits.take 30 = m.sent from hbits) hinto), latency_inForce ha]
        cases u.wire.level <;> rfl
      refine ⟨fun hl => ?_, fun hl => ?_⟩
      · refine exec_settled (c := .endOfData dt) ?_
        change dataEnded u = _
        rw [hended, hl]
        rfl
      · refine exec_settled (c := .endOfData dt) ?_
        change dataEnded u = _
        rw [hended, hl]
        rfl
    · refine exec_of_none (c := .endOfData dt) nofun ?_
      change dataEnded u = none
      simp only [dataEnded, inTransaction_of hm hs, hr]
      exact if_neg fun h => absurd h.2 (by omega)
    · refine exec_of_none (c := .replyWindowClose dt) nofun ?_
      change windowCloses u = none
      simp only [windowCloses, inTransaction_of hm hs, hw]
      exact if_neg (by rw [Bool.not_eq_true]; exact hno)
    · refine exec_of_some (c := .replyWindowClose dt) ?_
      change windowCloses u = _
      rw [windowCloses_due hm hs hw hno, endTransaction_discarded ha]
      rw [(fault_axis m .noReply).1, (fault_axis m .noReply).2]
      exact hmine
    · intro old new
      refine exec_of_some (c := .replyWindowClose dt) ?_
      change windowCloses u = _
      rw [windowCloses_due hm hs hw hdue, fault_of_ok hok,
        endTransaction_taken (m := { m with code := .noReply }) ha hmine.1 hmine.2]
      have hcross : lostCrossed old new = (old.st != .lost && new.st == .lost) :=
        AxisRec.lostCrossed_badCompletion _ _ _ _
      rw [← hcross]
      rfl
  · intro close
    rw [edge_falls hr hl, fall_awaiting (s := s.withWire { s.wire with level := .low, age := 0 }) _ hs hm hw]
    change (later s.clk.tb close = false → (if later s.clk.tb close then _ else _ : State).lc = _) ∧
      (later s.clk.tb close = true → (if later s.clk.tb close then _ else _ : State).lc.st = _ ∧
        (if later s.clk.tb close then _ else _ : State).lc.reading = _ ∧
        (if later s.clk.tb close then _ else _ : State).lc.trans = _)
    refine ⟨fun h => ?_, fun h => ?_⟩
    · rw [h, if_neg Bool.false_ne_true]
      rfl
    · rw [if_pos h]
      exact ⟨hs, rfl, rfl⟩

/-! ## The reply (R105) -/

/-- A reply read whole: its five bytes are the operands. -/
theorem replyRead_whole {s : State} {m : Transaction} {r : Reading} {p2 p1 p0 status check : Byte}
    (hm : s.lc.trans = some m) (hs : s.lc.st = .receiving) (hi : m.interpreted = true) (hn : m.reply = none)
    (hr : s.lc.reading = some r) (hl : 41 ≤ r.bits.length)
    (hb : (r.bits.drop 1).take 40 = [p2, p1, p0, status, check].flatMap byteBits) :
    s.replyRead p2 p1 p0 status check =
      some (s.withLc { s.lc with trans := some (m.replied p2 p1 p0 status check) }) := by
  have hbytes : ∀ k (hk : k < 5), byteAt r.bits (1 + 8 * k) = [p2, p1, p0, status, check][k] := fun k hk => by
    have htake : (r.bits.drop 1).take 40 = [] ++ [p2, p1, p0, status, check].flatMap byteBits := hb
    have := bytes_of_take htake rfl k hk
    rw [← this]
    simp only [byteAt, List.drop_drop, List.length_nil, Nat.zero_add]
  have hfive : [p2, p1, p0, status, check] = (List.range 5).map (fun k => byteAt r.bits (1 + 8 * k)) := by
    simp only [List.range_succ, List.range_zero, List.nil_append, List.map_cons, List.map_nil,
      List.cons_append, hbytes 0 (by omega), hbytes 1 (by omega), hbytes 2 (by omega), hbytes 3 (by omega),
      hbytes 4 (by omega)]
    rfl
  have hbits : s.replyBits = some (m, r.bits) := by
    simp only [State.replyBits, inTransaction_of hm hs, hr]
    exact if_pos ⟨hi, hn, hl⟩
  simp only [State.replyRead, hbits]
  exact if_pos hfive

/-- The CHECK of a reply decides the code of a transaction that had none. -/
theorem replied_ok {m : Transaction} (h : m.code = .ok) (p2 p1 p0 status check : Byte) :
    m.replied p2 p1 p0 status check = { m with
      reply := some (positionOf p2 p1 p0, status)
      code := if check = replyCheck m.seq p2 p1 p0 status then .ok else .checkFault } := by
  unfold Transaction.replied
  dsimp only
  split
  · rw [← h]
  · exact fault_of_ok (m := { m with reply := some (positionOf p2 p1 p0, status) }) h _

/-- Settles O40: the bytes are read off the bits, and the CHECK is judged over them. -/
theorem replyReceivedIsChecked : Obligations.ReplyReceivedIsChecked := by
  intro dt p2 p1 p0 status check s m r u hm hs hi hn hok hr
  refine ⟨fun hl hb => ?_, fun hl => ?_⟩
  · refine exec_settled (c := .replyReceived dt p2 p1 p0 status check) ?_
    change u.replyRead p2 p1 p0 status check = _
    rw [replyRead_whole hm hs hi hn hr hl hb, replied_ok hok]
    rfl
  · refine exec_of_none (c := .replyReceived dt p2 p1 p0 status check) nofun ?_
    change u.replyRead p2 p1 p0 status check = none
    have hbits : u.replyBits = none := by
      simp only [State.replyBits, inTransaction_of hm hs, hr]
      exact if_neg fun h => by omega
    simp only [State.replyRead, hbits]

/-! ## The end of a transaction (R106) -/

/-- When the link is free after a transaction. -/
def State.TransactionOver (s : State) (m : Transaction) : Prop :=
  (m.interpreted = true ∧ m.reply ≠ none ∧ ∃ r, s.lc.reading = some r ∧
    47 * s.rate.tau ≤ s.into r ∧ s.into r ≤ s.recessive + 41 * s.rate.tau) ∨
  (m.interpreted = false ∧ 6 * s.rate.tau ≤ s.recessive)

theorem frameEnded_iff (s : State) (e : Nat) : s.frameEnded e = true ↔ ∃ r, s.lc.reading = some r ∧
    (e + 6) * s.rate.tau ≤ s.into r ∧ s.into r ≤ s.recessive + e * s.rate.tau := by
  unfold State.frameEnded
  split
  · rename_i r hr
    simp [hr]
  · rename_i hr
    simp [hr]

theorem linkQuiet_iff (s : State) : s.linkQuiet = true ↔ 6 * s.rate.tau ≤ s.recessive := decide_eq_true_iff

theorem transactionOver_iff (s : State) (m : Transaction) :
    ((m.interpreted && m.reply.isSome && s.frameEnded 41) || (!m.interpreted && s.linkQuiet)) = true ↔
      s.TransactionOver m := by
  simp only [Bool.or_eq_true, Bool.and_eq_true, Bool.not_eq_true', Option.isSome_iff_ne_none, frameEnded_iff,
    linkQuiet_iff, and_assoc]
  exact Iff.rfl

theorem transactionEnds_spec {s : State} {m : Transaction} (hm : s.lc.trans = some m) (hs : s.lc.st = .receiving) :
    (s.TransactionOver m → transactionEnds s = some (s.endTransaction m)) ∧
    (¬ s.TransactionOver m → transactionEnds s = none) := by
  simp only [transactionEnds, inTransaction_of hm hs]
  exact ⟨fun h => if_pos ((transactionOver_iff s m).2 h), fun h => if_neg (mt (transactionOver_iff s m).1 h)⟩

/-- Settles O41: the transaction over, its completion is taken or discarded. -/
theorem transactionEndDeliversOk : Obligations.TransactionEndDeliversOk := by
  intro dt s m a u hm hs ha ends mine old gone taken
  obtain ⟨hover, hnot⟩ := transactionEnds_spec hm hs
  have htaken : ∀ y, m.carried = y ∨ (m.code = .checkFault ∨ m.code = .framing ∨ m.code = .bitFault) → ends → mine →
      exec (.transactionEnd dt) s = .next (((taken y).linkFree).settle u) := fun y hy he hmine => by
    refine exec_of_some (c := .transactionEnd dt) ?_
    change transactionEnds u = _
    rw [hover he, endTransaction_taken ha hmine.1 hmine.2]
    have hc : (u.axes.get m.axis).complete (trackCap m.axis) (a.settings.axis m.axis) m.code m.carried =
        old.complete (trackCap m.axis) (a.settings.axis m.axis) m.code y := by
      rcases hy with rfl | hf | hf | hf
      · rfl
      all_goals rw [hf]; rfl
    rw [hc]
    rfl
  refine ⟨fun t pos status he hmine hok ht hr => ?_, fun he hmine hf => htaken none (.inr hf) he hmine,
    fun he hmine => ?_, fun he => exec_of_none (c := .transactionEnd dt) nofun (hnot he)⟩
  · exact htaken _ (.inl (by simp only [Transaction.carried, ht, hr])) he hmine
  · refine exec_of_some (c := .transactionEnd dt) ?_
    change transactionEnds u = _
    rw [hover he, endTransaction_discarded ha hmine]

/-! ## Arbitration and bit faults (R101, R102) -/

/-- The first bit that reads back different. -/
theorem misread_of {s : State} {m : Transaction} {r : Reading} {i : Nat} (hm : s.lc.trans = some m)
    (hs : s.lc.st = .sending) (hr : s.lc.reading = some r) (hsame : r.bits.take i = (markBits m.unit m.seq).take i)
    (hsent : (markBits m.unit m.seq)[i]? = some true) (hread : r.bits[i]? = some false) :
    s.misread = some (m, i) := by
  have hdiff : differsAt m.sent r.bits = some i := differsAt_of_take hsame hsent hread nofun
  simp only [State.misread, inTransaction_of hm hs, hr, hdiff, Option.map_some]

/-- A link that reads drives nothing. -/
theorem drivesAxl_receiving {s : State} (h : s.lc.st = .receiving) : s.drivesAxl = false := by
  unfold State.drivesAxl
  rw [h]

/-- Settles O42: the place of the bit misread tells the two events apart. -/
theorem arbitrationAndBitFaults : Obligations.ArbitrationAndBitFaults := by
  intro dt s m a r i u hm hs ha hok hr sent hsame hsent hread mine lost
  have hmis := misread_of hm hs hr hsame hsent hread
  have hlost : 4 ≤ i → i < 12 → arbitrationLost u = some
      (({ u with lc := lost } : State).deliver m.axis m.unit .lostArb none) := fun h4 h12 => by
    simp only [arbitrationLost, hmis]
    exact if_pos ⟨h4, h12⟩
  have hsettled : ∀ {c : Instr} {e : State}, eventOf c (s.elapse c.elapsed) = some e → e.lc.st = .receiving →
      ∃ t, exec c s = .next t ∧ t.drivesAxl = false ∧ Settled e t := fun h hst => by
    obtain ⟨t, hx, ht⟩ := exec_settled h
    exact ⟨t, hx, drivesAxl_receiving (by rw [ht.lc]; exact hst), ht⟩
  refine ⟨fun h4 h12 hmine => ?_, fun h4 h12 hmine => ?_, fun hi => ?_⟩
  · refine hsettled (c := .lostArbitration dt) ((hlost h4 h12).trans ?_) rfl
    rw [deliver_noted ({ u with lc := lost } : State) a m.axis m.unit .lostArb none ha hmine.1 hmine.2 (.inl rfl)]
  · refine hsettled (c := .lostArbitration dt) ((hlost h4 h12).trans ?_) rfl
    rw [deliver_discarded ({ u with lc := lost } : State) a m.axis m.unit .lostArb none ha (by tauto)]
  · refine hsettled (c := .bitFault dt) ?_ rfl
    change bitFaulted u = _
    simp only [bitFaulted, hmis, if_pos hi, fault_of_ok hok]
    rfl

end Sys2Proof.Machine

/-! PROOFS. Frames of other nodes and NOTEs: settles O43 and O44. -/

namespace Sys2Proof.Machine

/-! ## The frame being read -/

section
variable {s : State} {f : RxFrame} {r : Reading}

theorem frameRead_of (hs : s.lc.st = .receiving) (ht : s.lc.trans = none) (hf : s.lc.rx = some f)
    (hr : s.lc.reading = some r) : s.frameRead = some (f, r) := by
  simp only [State.frameRead, hs, ht, hf, hr]

theorem inTransaction_none (ht : s.lc.trans = none) (st : LinkState) : s.inTransaction st = none := by
  unfold State.inTransaction
  split
  · exact ht
  · rfl

/-- A header is read only after a valid LEAD. -/
theorem leadOk_of_header {h : Byte} (hh : r.header = some h) : r.leadOk = true := by
  unfold Reading.header at hh
  split at hh
  · rename_i k; exact k.2
  · cases hh

theorem frameBroken_iff (hr : s.lc.reading = some r) (e : Nat) : s.frameBroken e = true ↔
    e * s.rate.tau ≤ s.into r ∧ (s.wire.level = .low ∨ s.recessive + e * s.rate.tau < s.into r) := by
  simp only [State.frameBroken, hr, Bool.and_eq_true, decide_eq_true_eq, Bool.or_eq_true, beq_iff_eq]

theorem frameEnded_of (hr : s.lc.reading = some r) {e : Nat} (h : (e + 6) * s.rate.tau ≤ s.into r)
    (h' : s.into r ≤ s.recessive + e * s.rate.tau) : s.frameEnded e = true :=
  (frameEnded_iff s e).2 ⟨r, hr, h, h'⟩

/-! ## FRAMING (R98, R105) -/

theorem framingCause_lead (hi : f.interpreted = true) (hp : f.replied = false) (hl : r.leadOk = false) :
    s.framingCause f r = some .invalidLead := by
  simp [State.framingCause, hi, hp, hl]

/-- A dominant level where the reply of another node's MARK must be over. -/
theorem framingCause_reply (hi : f.interpreted = true) (hp : f.replied = true) (hb : s.frameBroken 41 = true) :
    s.framingCause f r = some .boundDominant := by
  simp [State.framingCause, RxFrame.bitsEnd, hi, hp, hb]

/-- With a header the end of the CHECK is known: a dominant level after it, or an unused kind. -/
theorem framingCause_header {h : Byte} (hi : f.interpreted = true) (hp : f.replied = false) (hh : r.header = some h) :
    s.framingCause f r = if s.frameBroken (frameEnd h) then some .boundDominant
      else if f.framing = false ∧ 2 ≤ headerKind h then some (.unusedKind h) else none := by
  simp [State.framingCause, RxFrame.bitsEnd, hi, hp, hh, leadOk_of_header hh]

theorem framingFound_of (hs : s.lc.st = .receiving) (ht : s.lc.trans = none) (hf : s.lc.rx = some f)
    (hr : s.lc.reading = some r) {c : FramingCause} (hc : s.framingCause f r = some c) :
    s.framingFound c = some (s.withLc { s.lc with rx := some (f.framed c) }) := by
  simp only [State.framingFound, inTransaction_none ht, frameRead_of hs ht hf hr, hc, if_true]

/-- In the END-OF-FRAME of the part's own reply the transaction keeps its first fault. -/
theorem framingFound_own {m : Transaction} (hs : s.lc.st = .receiving) (ht : s.lc.trans = some m)
    (hi : m.interpreted = true) (hy : m.reply ≠ none) (hb : s.frameBroken 41 = true) :
    s.framingFound .boundDominant = some (s.withLc { s.lc with
      reading := none
      trans := some { m with code := if m.code = .ok then .framing else m.code, interpreted := false } }) := by
  have hfault : ({ m.fault .framing with interpreted := false } : Transaction) =
      { m with code := if m.code = .ok then .framing else m.code, interpreted := false } := by
    unfold Transaction.fault
    split <;> rfl
  simp only [State.framingFound, inTransaction_of ht hs, ← hfault]
  exact if_pos ⟨trivial, hi, Option.isSome_iff_ne_none.2 hy, hb⟩

/-! ## The end of a frame that is not delivered (R108) -/

theorem frameOver_spec (hs : s.lc.st = .receiving) (ht : s.lc.trans = none) (hf : s.lc.rx = some f)
    (hr : s.lc.reading = some r) : frameOver s = if s.undeliveredEnds f then some s.linkFree else none := by
  simp only [frameOver, frameRead_of hs ht hf hr]

theorem headerEnded_of {h : Byte} (hs : s.lc.st = .receiving) (ht : s.lc.trans = none) (hf : s.lc.rx = some f)
    (hr : s.lc.reading = some r) (hi : f.interpreted = true) (hp : f.replied = false) (hh : r.header = some h)
    (he : s.frameEnded (frameEnd h) = true) : s.headerEnded = some (f, h, r.bits) := by
  simp only [State.headerEnded, frameRead_of hs ht hf hr, hh, hi, hp, he]
  rfl

/-- A frame of another kind than NOTE, or judged FRAMING, is not delivered. -/
theorem undeliveredEnds_header {h : Byte} (hs : s.lc.st = .receiving) (ht : s.lc.trans = none) (hf : s.lc.rx = some f)
    (hr : s.lc.reading = some r) (hi : f.interpreted = true) (hp : f.replied = false) (hh : r.header = some h)
    (he : s.frameEnded (frameEnd h) = true) (hk : headerKind h ≠ 0 ∨ f.framing = true) :
    s.undeliveredEnds f = true := by
  have hended := headerEnded_of hs ht hf hr hi hp hh he
  have hnote : s.noteEnded = none := by
    simp only [State.noteEnded, hended]
    refine if_neg ?_
    rcases hk with hk | hk <;> simp [hk]
  simp [State.undeliveredEnds, State.noteToDeliver, hended, hnote, hi, hp]

end

/-! ## The REPLY-LEAD of another node's MARK (R97, R98, R104) -/

theorem fall_foreign {s : State} {f : RxFrame} {r : Reading} {recessive : Nat} (hs : s.lc.st = .receiving)
    (ht : s.lc.trans = none) (hf : s.lc.rx = some f) (hr : s.lc.reading = some r)
    (hlead : s.foreignReplyLead f r recessive = true) : s.fall recessive =
      s.withLc { s.lc.replyLead s.clk.tb with rx := some { f with replied := true } } := by
  simp only [State.fall, hs, ht, hf, hr, if_pos hlead]

/-- Settles O43: each event by the frame being read and its judgement. -/
theorem framesOfOtherNodes : Obligations.FramesOfOtherNodes := by
  refine ⟨?_, fun s => ⟨linkFree_idle s, linkFree_mark s⟩, ?_⟩
  · intro dt s u brokeAfter
    refine ⟨fun hs hl => ?_, fun hs hl => ?_, ?_, fun m r hs ht hi hy hr hb => ?_⟩
    · refine exec_settled (c := .receivedFrameBegin dt) ?_
      change frameSeen u = _
      simp only [frameSeen, hs, hl]
      rfl
    · refine exec_of_none (c := .receivedFrameBegin dt) nofun ?_
      change frameSeen u = none
      simp only [frameSeen, hs, hl]
    · intro f r hs ht hf hr framed broken ends quiet
      have hframed : ∀ c, u.framingCause f r = some c → framed c (f.framed c) := fun c hc => by
        refine exec_settled (c := .receivedFrameFraming dt c) ?_
        change u.framingFound c = _
        rw [framingFound_of hs ht hf hr hc]
        rfl
      have hends : u.undeliveredEnds f = true → ends := fun h => by
        refine exec_of_some (c := .receivedFrameEnd dt) ?_
        change frameOver u = _
        rw [frameOver_spec hs ht hf hr, if_pos h]
      refine ⟨fun hi hp hl => ?_, fun hi hp hb => ?_, fun h hi hp hbits => ?_, fun hi hp hq => ?_, fun hi hq => ?_,
        fun hi hq => ?_⟩
      · exact hframed _ (framingCause_lead hi hp (eq_false_of_ne_true (mt (leadOk_iff r).1 hl)))
      · exact hframed _ (framingCause_reply hi hp ((frameBroken_iff hr 41).2 hb))
      · intro e
        have hh := header_of_take hbits
        have hcause := framingCause_header (s := u) hi hp hh
        refine ⟨fun hb => hframed _ ?_, fun hb hfr hk => hframed _ ?_, fun hk hq => hends ?_⟩
        · rw [hcause, if_pos ((frameBroken_iff hr (frameEnd h)).2 hb)]
        · rw [hcause, if_neg (mt (frameBroken_iff hr (frameEnd h)).1 hb), if_pos ⟨hfr, hk⟩]
        · exact undeliveredEnds_header hs ht hf hr hi hp hh (frameEnded_of hr hq.1 hq.2) hk
      · exact hends (by simp [State.undeliveredEnds, hi, hp, frameEnded_of hr hq.1 hq.2])
      · exact hends (by simp [State.undeliveredEnds, hi, (linkQuiet_iff u).2 hq])
      · refine exec_of_none (c := .receivedFrameEnd dt) nofun ?_
        change frameOver u = none
        have hnot : u.linkQuiet = false := eq_false_of_ne_true (mt (linkQuiet_iff u).1 (by omega))
        rw [frameOver_spec hs ht hf hr]
        exact if_neg (by simp [State.undeliveredEnds, hi, hnot])
    · refine exec_settled (c := .receivedFrameFraming dt .boundDominant) ?_
      change u.framingFound .boundDominant = _
      rw [framingFound_own hs ht hi hy ((frameBroken_iff hr 41).2 hb)]
      rfl
  · intro s f r h hreset hl hs ht hf hr hi hp hbits hk e h2 h6 hrec
    have hh := header_of_take hbits
    have hlead : (s.withWire { s.wire with level := .low, age := 0 }).foreignReplyLead f r s.recessive = true := by
      have hkind : headerKind h = 1 := by rw [headerKind, hk]; rfl
      simp only [State.foreignReplyLead, hh, hi, hp, hkind, Bool.and_eq_true, decide_eq_true_eq]
      exact ⟨⟨⟨⟨⟨trivial, rfl⟩, rfl⟩, h2⟩, h6⟩, hrec⟩
    rw [edge_falls hreset hl,
      fall_foreign (s := s.withWire { s.wire with level := .low, age := 0 }) hs ht hf hr hlead]
    rfl

/-! ## NOTEs (R107) -/

/-- The header, data and CHECK read of a frame of LEAD, header, data and CHECK. -/
theorem noteBytes_of {r : Reading} {h check : Byte} {data : List Byte} (hl : headerLength h = data.length)
    (hb : r.bits.take (20 + 8 * data.length) = [false, false, false, true] ++ (h :: data ++ [check]).flatMap byteBits) :
    r.header = some h ∧ dataBytes h r.bits = data ∧ checkByte h r.bits = check := by
  have hbyte : ∀ k (hk : k < (h :: data ++ [check]).length), byteAt r.bits (4 + 8 * k) = (h :: data ++ [check])[k] :=
    fun k hk => bytes_of_take hb (by simp; omega) k hk
  refine ⟨header_of_take ?_, ?_, ?_⟩
  · have := congrArg (List.take 12) hb
    rw [List.take_take, Nat.min_eq_left (by omega)] at this
    rw [this]
    simp
  · refine List.ext_getElem (by simp [dataBytes, hl]) fun k hk hk' => ?_
    have := hbyte (k + 1) (by simp; omega)
    simp only [dataBytes, List.getElem_map, List.getElem_range]
    rw [show 12 + 8 * k = 4 + 8 * (k + 1) by omega, this]
    simp [List.getElem_append_left, hk']
  · have := hbyte (data.length + 1) (by simp)
    rw [checkByte, hl, show 12 + 8 * data.length = 4 + 8 * (data.length + 1) by omega, this]
    simp

theorem noteOf_iff (code : Byte) (n : NoteCode) : noteOf code = some n ↔
    (code = 1 ∧ n = .endstop) ∨ (code = 2 ∧ n = .fault) ∨ (code = 3 ∧ n = .rezero) := by
  unfold noteOf
  split
  · subst_vars; simp [eq_comm]
  · split
    · subst_vars; simp [eq_comm]
    · split
      · subst_vars; simp [eq_comm]
      · exact ⟨nofun, by rintro (⟨h, -⟩ | ⟨h, -⟩ | ⟨h, -⟩) <;> contradiction⟩

/-- The judgement of a NOTE: its CHECK, its length, its code. -/
theorem judgeNote_check {h check : Byte} {data : List Byte} (hc : check ≠ crc8 (h :: data)) :
    judgeNote h data check = none := if_neg fun k => hc k.symm

theorem judgeNote_length {h check : Byte} {data : List Byte} (hl : data.length ≠ 1 ∧ data.length ≠ 4) :
    judgeNote h data check = none := by
  unfold judgeNote
  split
  · split
    · exact absurd rfl hl.1
    · exact absurd rfl hl.2
    · rfl
  · rfl

theorem judgeNote_code {h check code : Byte} {rest : List Byte} (hc : ∀ n, noteOf code ≠ some n) :
    judgeNote h (code :: rest) check = none := by
  have hnone : noteOf code = none := Option.eq_none_iff_forall_ne_some.2 hc
  unfold judgeNote
  split
  · split
    · rename_i k; cases k; rw [hnone]; rfl
    · rename_i k; cases k; rw [hnone]; rfl
    · rfl
  · rfl

/-- A NOTE of one byte carries no position, one of four does. -/
theorem judgeNote_passes {h check code : Byte} {n : NoteCode} (hn : noteOf code = some n) :
    (check = crc8 [h, code] → judgeNote h [code] check = some (n, none)) ∧
    (∀ p2 p1 p0, check = crc8 [h, code, p2, p1, p0] →
      judgeNote h [code, p2, p1, p0] check = some (n, some (p2 ++ p1 ++ p0))) := by
  refine ⟨fun hc => ?_, fun p2 p1 p0 hc => ?_⟩
  · rw [judgeNote, if_pos hc.symm]
    simp [hn]
  · rw [judgeNote, if_pos hc.symm]
    simp [hn, positionOf]

/-- An axis record after a NOTE that the axis takes, or does not. -/
def State.notedAxis (s : State) (takes : Axis → Bool) (n : NoteCode) (pos : Option Counts) (x : Axis) : AxisRec :=
  if takes x then (s.axes.get x).note n pos else s.axes.get x

/-- What a NOTE leaves: the records of the axes it is taken for, and AXIS when one goes into or out of LOST. -/
theorem deliverNote_moved {s : State} {addr : Nat} {n : NoteCode} {pos : Option Counts} {takes : Axis → Bool}
    (h : ∀ x, takes x = true ↔ s.tracks x = true ∧ s.unit x = addr) :
    s.deliverNote addr n pos = { s with
      axes := { focus := s.notedAxis takes n pos .focus, iris := s.notedAxis takes n pos .iris
                zoom := s.notedAxis takes n pos .zoom }
      al := s.al.raiseWhen
        ((((s.axes.get .focus).st == .lost) != ((s.notedAxis takes n pos .focus).st == .lost)) ||
          (((s.axes.get .iris).st == .lost) != ((s.notedAxis takes n pos .iris).st == .lost)) ||
          (((s.axes.get .zoom).st == .lost) != ((s.notedAxis takes n pos .zoom).st == .lost))) .axis } := by
  have hmap : s.axes.map (fun x r => if s.tracks x = true ∧ s.unit x = addr then r.note n pos else r) =
      { focus := s.notedAxis takes n pos .focus, iris := s.notedAxis takes n pos .iris
        zoom := s.notedAxis takes n pos .zoom } := by
    simp only [Axes.map, State.notedAxis, ← h]
    rfl
  rw [State.deliverNote, moveAxes_spec, hmap]
  rfl

/-- Settles O44: the bytes are those of the bits, and the judgement decides. -/
theorem noteReceivedIsJudged : Obligations.NoteReceivedIsJudged := by
  intro dt h check data s f r u hs ht hf hr hi hframing hp hk hl e hbits h6 hrec named
  obtain ⟨hh, hdata, hcheck⟩ := noteBytes_of hl hbits
  have hend : frameEnd h = e := by rw [frameEnd, show headerLength h = data.length from hl]
  have hended : u.noteEnded = some (h, data, check) := by
    have hhead := headerEnded_of hs ht hf hr hi hp hh (by rw [hend]; exact frameEnded_of hr h6 hrec)
    have hkind : headerKind h = 0 := by rw [headerKind, hk]; rfl
    simp only [State.noteEnded, hhead, hdata, hcheck, hframing, hkind]
    rfl
  refine ⟨fun hno => ?_, fun code rest n hd hlen hc hn => ?_⟩
  · have hjudge : judgeNote h data check = none := by
      rcases hno with hno | hno | hno
      · exact judgeNote_check hno
      · exact judgeNote_length hno
      · match data, hno with
        | [], _ => exact judgeNote_length ⟨nofun, nofun⟩
        | code :: rest, hno => exact judgeNote_code fun n hn => hno code rest n rfl ((noteOf_iff code n).1 hn)
    refine exec_of_some (c := .noteReceived dt h data check) ?_
    change u.noteRead h data check = _
    simp only [State.noteRead, hended, if_true, hjudge]
  · subst hd
    have hcode := (noteOf_iff code n).2 hn
    obtain ⟨hshort, hlong⟩ := judgeNote_passes (h := h) (check := check) hcode
    have hread : ∀ {pos}, judgeNote h (code :: rest) check = some (n, pos) → eventOf (.noteReceived dt h (code :: rest) check) u =
        some (u.deliverNote (headerAddress h) n pos).linkFree := fun hj => by
      change u.noteRead h (code :: rest) check = _
      simp only [State.noteRead, hended, if_true, hj]
    have htakes : ∀ x, (u.mode x == .track && u.unit x == (h.extractLsb' 3 3).toNat) = true ↔
        u.tracks x = true ∧ u.unit x = headerAddress h := fun x => by
      rw [Bool.and_eq_true, beq_iff_eq (a := u.unit x)]
      exact Iff.rfl
    match rest, hlen with
    | [], _ =>
      refine exec_of_some (c := .noteReceived dt h [code] check) ((hread (hshort hc)).trans ?_)
      rw [deliverNote_moved htakes]
      cases n <;> rfl
    | [p2, p1, p0], _ =>
      refine exec_of_some (c := .noteReceived dt h [code, p2, p1, p0] check) ((hread (hlong p2 p1 p0 hc)).trans ?_)
      rw [deliverNote_moved htakes]
      cases n <;> rfl
    | [_], k | [_, _], k | _ :: _ :: _ :: _ :: _, k => simp at k

end Sys2Proof.Machine

/-! PROOFS. Breaks and the stuck wire: settles O45, O46 and O47. -/

namespace Sys2Proof.Machine

/-! ## Breaks sensed (R113, R114) -/

theorem levelBound_iff (s : State) : s.levelBound = true ↔
    s.atBound = true ∨ ∃ d, s.lc.dominant = some d ∧ d.bound = true := by
  unfold State.levelBound
  cases s.lc.dominant <;> simp [or_comm]

theorem breakPresent_iff (s : State) : s.breakPresent = true ↔ s.lc.sensesBreaks = true ∧
    (s.wire.level = .low ∧ 16 * s.rate.tau ≤ s.held) ∧
    (s.atBound = true ∨ ∃ d, s.lc.dominant = some d ∧ d.bound = true) := by
  rw [State.breakPresent, Bool.and_eq_true, Bool.and_eq_true, Bool.and_eq_true, levelBound_iff, beq_iff_eq,
    decide_eq_true_iff, and_assoc, and_assoc, and_assoc]

/-- The link senses breaks while it is active and in the wait after a break. -/
theorem sensesBreaks_of {lc : Link} (h : lc.st = .idle ∨ lc.st = .sending ∨ lc.st = .awaitReply ∨ lc.st = .receiving ∨
    ((lc.st = .breakRx ∨ lc.st = .breakTx) ∧ lc.breakOver = true)) : lc.sensesBreaks = true := by
  rcases h with h | h | h | h | ⟨h | h, ho⟩ <;> simp only [Link.sensesBreaks, h]
  · exact ho
  · exact ho

/-- The effect of a sensed break on the transaction's axis, which is still in TRACK on its unit. -/
theorem marksBroken_restarted {s : State} {m : Transaction} {a : Adopted} (hm : s.lc.trans = some m)
    (hf : s.sr.inForce = some a) (ht : (a.settings.axis m.axis).mode = .track)
    (hu : (a.settings.axis m.axis).unit = m.unit) :
    (s.marksBroken (s.restartedAxes (.pending s.blankTime))).get m.axis = { s.axes.get m.axis with
      lastCompletion := .broken, st := .seeking, track := [], misses := 0, good := 0
      blanking := .pending a.settings.blankTime } := by
  have hmode : s.mode m.axis = .track := by simp only [State.mode, hf, ht]
  have hunit : s.unit m.axis = m.unit := by simp only [State.unit, hf, hu]
  have htracks : s.tracks m.axis = true := by rw [State.tracks, hmode]; rfl
  have hblank : s.blankTime = a.settings.blankTime := by simp only [State.blankTime, hf]
  obtain ⟨c, hc, -⟩ := marksBroken_get s (s.restartedAxes (.pending s.blankTime)) m.axis
  have hbroken := marksBroken_broken (s.restartedAxes (.pending s.blankTime)) hm htracks hunit
  rw [hc] at hbroken
  change c = .broken at hbroken
  rw [hc, hbroken, restartedAxes_get, htracks, hblank]
  rfl

/-! ## What the wire counts as time passes (R96, R113) -/

/-- A state in which `d` microseconds have passed that the link has yet to read. -/
def State.passed (s : State) (d : Time) : State :=
  ((s.withClk { s.clk with tb := s.clk.tb + d }).withFi { since := s.fi.since + d.toNat }).withWire { s.wire with
    age := s.wire.age + d.toNat
    own := (s.withClk { s.clk with tb := s.clk.tb + d }).ownAge s.driven d.toNat }

/-- The bits whose middles have been passed are read. -/
def State.bitsRead (s : State) (drv : List Bool) : State := s.withLc { s.lc with
  reading := s.lc.reading.map (fun r => r.sampled s.rate.tau (s.into r) s.wire.level drv) }

theorem pass_eq_listen {s : State} (d : Time) (h : s.clk.resetn = true) : s.pass d = (s.passed d).listen s.driven :=
  if_pos h

theorem listen_high {s : State} (drv : List Bool) (h : s.lc.st ≠ .off) (hl : s.wire.level = .high) :
    s.listen drv = s.bitsRead drv := by
  unfold State.listen
  rw [if_neg h]
  simp only [hl]
  rw [State.bitsRead, hl]

theorem listen_low {s : State} (drv : List Bool) (h : s.lc.st ≠ .off) (hl : s.wire.level = .low) :
    s.listen drv = (s.bitsRead drv).withLc { (s.bitsRead drv).lc with
      dominant := some { length := s.held, bound := s.lc.dominant.any (·.bound) || (s.bitsRead drv).atBound } } := by
  unfold State.listen
  rw [if_neg h]
  simp only [hl]
  rw [State.bitsRead, hl]
  rfl

theorem listen_reading {s : State} (drv : List Bool) (h : s.lc.st ≠ .off) :
    (s.listen drv).lc.reading = (s.bitsRead drv).lc.reading := by
  cases hl : s.wire.level
  · rw [listen_low drv h hl]; rfl
  · rw [listen_high drv h hl]

theorem listen_wire (s : State) (drv : List Bool) : (s.listen drv).wire = s.wire := by
  unfold State.listen
  split
  · rfl
  · dsimp only
    split <;> rfl

theorem pass_wire {s : State} (d : Time) (h : s.clk.resetn = true) : (s.pass d).wire = (s.passed d).wire := by
  rw [pass_eq_listen d h, listen_wire]

/-! ## Bound positions (R97) -/

theorem atBound_false_iff {s : State} {r : Reading} (h : s.lc.reading = some r) : s.atBound = false ↔
    s.lc.freeSlots.1 * s.rate.tau ≤ s.into r ∧ s.into r < s.lc.freeSlots.2 * s.rate.tau := by
  simp only [State.atBound, h, Bool.or_eq_false_iff, decide_eq_false_iff_not, Nat.not_lt, Nat.not_le]

/-- With no free position every position is bound. -/
theorem atBound_of_noSlots {s : State} (h : s.lc.freeSlots = (0, 0)) : s.atBound = true := by
  unfold State.atBound
  rw [h]
  split
  · simp
  · rfl

theorem freeSlots_sending {lc : Link} {m : Transaction} (h : lc.st = .sending) (hm : lc.trans = some m) :
    lc.freeSlots = (4, 28) := by
  simp only [Link.freeSlots, h, hm]

theorem freeSlots_reply {lc : Link} {m : Transaction} (h : lc.st = .receiving) (hm : lc.trans = some m) :
    lc.freeSlots = if m.interpreted then (0, 41) else (0, 0) := by
  simp only [Link.freeSlots, h, hm]

theorem freeSlots_frame {lc : Link} {f : RxFrame} {r : Reading} (h : lc.st = .receiving) (hm : lc.trans = none)
    (hf : lc.rx = some f) (hr : lc.reading = some r) :
    lc.freeSlots = if f.interpreted then f.freeSlots r else (0, 0) := by
  simp only [Link.freeSlots, h, hm, hf, hr]

theorem frameSlots_replied {f : RxFrame} (r : Reading) (h : f.replied = true) : f.freeSlots r = (0, 41) := by
  simp only [RxFrame.freeSlots, h, if_true]

theorem frameSlots_header {f : RxFrame} {r : Reading} {b : Byte} (h : f.replied = false) (hb : r.header = some b) :
    f.freeSlots r = (4, frameEnd b) := by
  simp only [RxFrame.freeSlots, h, hb, Bool.false_eq_true, if_false]

/-- Before the header is read the free positions are its own, none after an invalid LEAD. -/
theorem frameSlots_lead {f : RxFrame} {r : Reading} (h : f.replied = false) (hb : r.header = none) :
    f.freeSlots r = if r.leadOk then (4, 12) else (0, 0) := by
  simp only [RxFrame.freeSlots, h, hb, Bool.false_eq_true, if_false]

theorem header_none {r : Reading} (h : ¬ (12 ≤ r.bits.length ∧ r.leadOk = true)) : r.header = none := if_neg h

theorem atBound_sending {s : State} {r : Reading} (hr : s.lc.reading = some r) (h : s.lc.st = .sending)
    (hm : s.lc.trans ≠ none) : s.atBound = false ↔ 4 * s.rate.tau ≤ s.into r ∧ s.into r < 28 * s.rate.tau := by
  obtain ⟨m, hm⟩ := Option.ne_none_iff_exists'.1 hm
  rw [atBound_false_iff hr, freeSlots_sending h hm]

theorem atBound_reply {s : State} {r : Reading} {m : Transaction} (hr : s.lc.reading = some r)
    (h : s.lc.st = .receiving) (hm : s.lc.trans = some m) : s.atBound = false ↔
    m.interpreted = true ∧ 0 * s.rate.tau ≤ s.into r ∧ s.into r < 41 * s.rate.tau := by
  rw [atBound_false_iff hr, freeSlots_reply h hm]
  cases m.interpreted <;> simp

/-! ## What a break does and where its level counts (R97, R113 to R116) -/

/-- Settles O45: recognition and the break's two ends, then the measure and the positions. -/
theorem breaksBeginAndEnd : Obligations.BreaksBeginAndEnd := by
  refine ⟨?_, fun s => ⟨fun a ha => ?_, ?_, fun d hr hst hl => ?_, fun hr hl hst => ?_, fun r hr => ?_, fun hr => ?_⟩⟩
  · intro dt s u waits bound long expired ended
    have hsensed : ∀ held : Time, (u.lc.st = .idle ∨ u.lc.st = .sending ∨ u.lc.st = .awaitReply ∨
        u.lc.st = .receiving ∨ waits) → long → bound → held.toNat = u.held →
        eventOf (.breakRecognised dt held) u = some u.senseBreak := fun held hst hlong hbound heq =>
      if_pos ⟨(breakPresent_iff u).2 ⟨sensesBreaks_of hst, hlong, hbound⟩, heq⟩
    have hended : ∀ lc : Link, ((u.withLc lc).axesBreakEnd) = { u with axes := ended, lc := lc } := fun lc => by
      have hexpired : ∀ r : AxisRec, r.breakEnd u.expiryAfter = expired r := fun r => by
        simp only [AxisRec.breakEnd, expired]
        cases r.blanking <;> rfl
      simp only [axesBreakEnd_spec, ended, ← hexpired]
      rfl
    refine ⟨fun held hst hlong hbound heq => ?_, fun held hno => ?_, fun d hst hover hd hlen hhigh => ?_,
      fun e hst he hreached => ⟨fun hhigh => ?_, fun hlow => ?_⟩, fun held m a hst hm hf ht hu hlong hbound heq => ?_⟩
    · exact exec_settled (c := .breakRecognised dt held) ((hsensed held hst hlong hbound heq).trans
        (congrArg some (senseBreak_spec u)))
    · exact exec_of_none (c := .breakRecognised dt held) nofun
        (if_neg fun h => hno ((breakPresent_iff u).1 h.1).2)
    · refine exec_settled (c := .sensedBreakEnd dt) ?_
      change sensedBreakEnds u = _
      have hnot : u.stuckAt d = false := decide_eq_false (Nat.not_le.2 hlen)
      simp only [sensedBreakEnds, Link.sensedLevel, hst, hover, hd, hnot, hhigh]
      exact congrArg some (hended _)
    · refine exec_settled (c := .sentBreakRelease dt .high) ?_
      change u.breakReleased .high = _
      simp only [State.breakReleased, hst, he, hhigh, hreached]
      exact congrArg some (hended _)
    · refine exec_settled (c := .sentBreakRelease dt .low) ?_
      change u.breakReleased .low = _
      simp only [State.breakReleased, hst, he, hlow, hreached]
      rfl
    · have hwaits : u.lc.st = .idle ∨ u.lc.st = .sending ∨ u.lc.st = .awaitReply ∨ u.lc.st = .receiving ∨ waits := by
        tauto
      obtain ⟨t, hx, hset⟩ := exec_settled (c := .breakRecognised dt held)
        ((hsensed held hwaits hlong hbound heq).trans (congrArg some (senseBreak_spec u)))
      refine ⟨t, hx, ?_⟩
      rw [hset.lc, hset.axes]
      refine ⟨rfl, rfl, rfl, rfl, rfl, ?_⟩
      change ((u.marksBroken (u.restartedAxes (.pending u.blankTime))).get m.axis).lastCompletion = _ ∧
        ((u.marksBroken (u.restartedAxes (.pending u.blankTime))).get m.axis).st = _ ∧
        ((u.marksBroken (u.restartedAxes (.pending u.blankTime))).get m.axis).track = _ ∧
        ((u.marksBroken (u.restartedAxes (.pending u.blankTime))).get m.axis).blanking = _ ∧
        ((u.marksBroken (u.restartedAxes (.pending u.blankTime))).get m.axis).unitStatus = _
      rw [marksBroken_restarted hm hf ht hu]
      exact ⟨rfl, rfl, rfl, rfl, rfl⟩
  · have hb : s.blankTime = a.settings.blankTime := by simp only [State.blankTime, ha]
    exact ⟨hb, by rw [State.blankUntil, State.expiryAfter, hb]⟩
  · cases h : s.wire.level <;> simp [State.held, h]
  · rw [pass_wire d hr] at hl
    rw [pass_eq_listen d hr, listen_low (s := s.passed d) _ hst hl]
    rfl
  · rw [edge_falls hr hl]
    rcases hst with h | h | h | h | h <;> simp only [State.fall, State.withWire_lc, h] <;> rfl
  · intro within
    refine ⟨fun hst hm => atBound_sending hr hst hm, fun m hst hm => atBound_reply hr hst hm, fun f hst hm hf => ?_⟩
    have hslots := freeSlots_frame hst hm hf hr
    refine ⟨fun hi => atBound_of_noSlots (by rw [hslots, hi]; rfl), fun hi hp => ?_, fun h hi hp hbits => ?_,
      fun hi hp hlen hlead => ?_, fun hi hp hlead => atBound_of_noSlots ?_⟩
    · rw [atBound_false_iff hr, hslots, if_pos hi, frameSlots_replied r hp]
    · rw [atBound_false_iff hr, hslots, if_pos hi, frameSlots_header hp (header_of_take hbits)]
      rfl
    · rw [atBound_false_iff hr, hslots, if_pos hi, frameSlots_lead hp (header_none (by omega)),
        if_pos ((leadOk_iff r).2 hlead)]
    · have hbad : ¬ r.leadOk = true := mt (leadOk_iff r).1 hlead
      rw [hslots, if_pos hi, frameSlots_lead hp (header_none (by tauto)), if_neg hbad]
  · simp only [State.atBound, hr]

/-! ## After a break (R109, R115 to R117) -/

theorem nextTick_eq (s : State) :
    s.nextTick = s.sr.inForce.map (fun a => s.clk.tb + micros a.settings.markPeriod) := by
  unfold State.nextTick
  cases s.sr.inForce <;> rfl

/-- A break that is owed is sent instead of the link going IDLE. -/
theorem linkAfterBreak_owed {s : State} (h : s.lc.owed = true) : s.linkAfterBreak = { s with
    axes := s.marksBroken (s.restartedAxes (.pending s.blankTime))
    al := s.al.raiseWhen s.someTrackLost .axis
    lc := { s.lc with
      st := .breakTx, tick := none, trans := none, waiting := none, rx := none, reading := none, dominant := none,
      owed := false, breakOver := false, breakEnd := some (s.clk.tb + s.bits 40) } } := by
  unfold State.linkAfterBreak
  rw [if_pos h, sendBreak_spec]
  rfl

theorem breakWaited_spec {s : State} (hst : s.lc.st = .breakRx ∨ s.lc.st = .breakTx) (ho : s.lc.breakOver = true) :
    breakWaited s = if 6 * s.rate.tau ≤ s.recessive then some s.linkAfterBreak else none := by
  have hwaits : s.lc.waitsAfterBreak = true := by
    rcases hst with h | h <;> simp only [Link.waitsAfterBreak, h, ho]
  simp only [breakWaited, hwaits, Bool.true_and, linkQuiet_iff]

theorem fall_wire (s : State) (n : Nat) : (s.fall n).wire = s.wire := by
  unfold State.fall
  dsimp only
  split
  · rfl
  · split
    · split <;> rfl
    · rfl
  · split <;> rfl
  · rfl

theorem edge_wire (s : State) :
    s.edge.wire = { level := if s.wire.level = .high then .low else .high, age := 0, own := s.wire.own } := by
  unfold State.edge
  cases h : s.wire.level
  · rfl
  · dsimp only
    split
    · rw [fall_wire]; rfl
    · rfl

/-! ## Since when the part has not driven the wire -/

/-- A row of recessive bits cut off where they end. -/
theorem takeWhile_not_eq_take {l : List Bool} {k : Nat} (h : ∀ i, i < k → l[i]? = some false)
    (hk : l[k]? ≠ some false) : l.takeWhile (!·) = l.take k := by
  induction k generalizing l with
  | zero =>
    match l, hk with
    | [], _ => rfl
    | true :: _, _ => rfl
    | false :: _, hk => exact absurd rfl hk
  | succ k ih =>
    match l, h 0 (by omega) with
    | false :: l, _ =>
      rw [List.takeWhile_cons_of_pos rfl, List.take_succ_cons,
        ih (fun i hi => by simpa using h (i + 1) (by omega)) (by simpa using hk)]

/-- The bits of its frame that the part drives: those before the first misread one; all, on a recessive wire; on a
wire held low, up to the next recessive one. -/
theorem drivenBits_eq {sent bits : List Bool} {level : Level} {k : Nat} (hl : sent.length = 30) (hk : k ≤ 30)
    (h : (bits.take 30 = sent.take (min bits.length 30) ∧ level = .high ∧ k = 30) ∨
      (bits.take 30 = sent.take (min bits.length 30) ∧ level = .low ∧ min bits.length 30 ≤ k ∧ sent[k]? ≠ some false ∧
        ∀ i, min bits.length 30 ≤ i → i < k → sent[i]? = some false) ∨
      (bits.take k = sent.take k ∧ ∃ v w, sent[k]? = some v ∧ bits[k]? = some w ∧ v ≠ w)) :
    drivenBits sent bits level = sent.take k := by
  have hagree : bits.take 30 = sent.take (min bits.length 30) → differsAt sent bits = none := fun h =>
    differsAt_eq_none (by rw [hl, h, ← hl, ← List.take_take, List.take_length])
  rcases h with ⟨h, rfl, rfl⟩ | ⟨h, rfl, hn, hstop, hrun⟩ | ⟨h, v, w, hv, hw, hne⟩
  · simp only [drivenBits, hagree h]
    rw [List.take_of_length_le (by omega)]
  · simp only [drivenBits, hagree h]
    have hshort : bits.length ≤ k ∨ (30 ≤ bits.length ∧ k = 30) := by omega
    rcases hshort with hshort | ⟨hlong, rfl⟩
    · rw [takeWhile_not_eq_take (k := k - bits.length)
        (fun i hi => by rw [List.getElem?_drop]; exact hrun _ (by omega) (by omega))
        (by rw [List.getElem?_drop, show bits.length + (k - bits.length) = k by omega]; exact hstop),
        ← List.take_add, show bits.length + (k - bits.length) = k by omega]
    · rw [List.take_of_length_le (by omega), List.drop_of_length_le (by omega), List.take_of_length_le (by omega)]
      exact List.append_nil _
  · simp only [drivenBits, differsAt_of_take h hv hw hne]

/-- A dominant bit time of what the part has driven. -/
theorem droveBit_iff (sent : List Bool) (k n i : Nat) :
    ((sent.take k).take (n + 1))[i]? = some false ↔ i < k ∧ i ≤ n ∧ sent[i]? = some false := by
  rw [List.getElem?_take, List.getElem?_take]
  split
  · split
    · exact ⟨fun h => ⟨by omega, by omega, h⟩, fun h => h.2.2⟩
    · exact ⟨nofun, fun h => absurd h.1 (by omega)⟩
  · exact ⟨nofun, fun h => absurd h.2.1 (by omega)⟩

theorem driven_sending {s : State} {m : Transaction} {r : Reading} (h : s.lc.st = .sending) (hm : s.lc.trans = some m)
    (hr : s.lc.reading = some r) : s.driven = drivenBits m.sent r.bits s.wire.level := by
  simp only [State.driven, h, hm, hr]

/-- Settles O46: the wait after a break, the wire's counts, and what the part last drove of its MARK. -/
theorem linkIsFreeAfterABreak : Obligations.LinkIsFreeAfterABreak := by
  refine ⟨?_, fun s => ⟨?_, edge_wire s, fun d hr => ?_⟩, fun s d hr => ?_⟩
  · intro dt s u hst ho
    have hspec := breakWaited_spec (s := u) hst ho
    refine ⟨fun hq hno => ?_, fun hq howed => ?_, fun hq => ?_⟩
    · rw [← nextTick_eq, ← linkAfterBreak_idle u hno]
      exact exec_settled (c := .linkFreeAfterBreak dt) (hspec.trans (if_pos hq))
    · refine exec_settled (c := .linkFreeAfterBreak dt) ((hspec.trans (if_pos hq)).trans ?_)
      exact congrArg some (linkAfterBreak_owed howed)
    · exact exec_of_none (c := .linkFreeAfterBreak dt) nofun (hspec.trans (if_neg (Nat.not_le.2 hq)))
  · cases h : s.wire.level <;> simp [State.recessive, h]
  · rw [pass_wire d hr]
    exact ⟨rfl, rfl⟩
  · intro now
    have hown := pass_own s d hr
    refine ⟨fun e hst he => ?_, ?_, fun hs hb => ?_⟩
    · rw [hown]
      simp only [State.ownAge, State.withClk_lc, hst, he]
      rfl
    · intro m r k hst hm hrd hk sent n agrees x drove hcase
      have hdrv : s.driven = sent.take k :=
        (driven_sending hst hm hrd).trans (drivenBits_eq (markBits_length _ _) hk hcase)
      have hx : (s.pass d).wire.own = x - s.rate.tau * lastDominant ((sent.take k).take (x / s.rate.tau + 1)) := by
        rw [hown, hdrv]
        simp only [State.ownAge, State.withClk_lc, hst, hrd]
        rfl
      refine ⟨fun i hi hlast => ?_, fun hno => ?_⟩
      · rw [hx, lastDominant_eq ((droveBit_iff _ _ _ i).2 hi) (fun j hj => hlast j ((droveBit_iff _ _ _ j).1 hj)),
          Nat.mul_comm]
      · rw [hx, lastDominant_none (fun j hj => hno j ((droveBit_iff _ _ _ j).1 hj))]
        rfl
    · rw [hown]
      simp only [State.ownAge, State.withClk_lc]
      split
      · rename_i h1 h2
        rcases hs with hs | hs
        · exact absurd h1 hs
        · rw [hs] at h2; cases h2
      · rename_i h1 h2
        rcases hb with hb | hb
        · exact absurd h1 hb
        · rw [hb] at h2; cases h2
      · rfl

/-! ## STUCK (R32, R33, R118, R119) -/

theorem becomesStuck_spec {s : State} {d : DominantMeasure} (hst : s.lc.st = .breakRx) (ho : s.lc.breakOver = false)
    (hd : s.lc.dominant = some d) : becomesStuck s = if 2048 * s.rate.tau ≤ d.length then
      some ((s.withLc { s.lc with st := .stuck }).raise .stuck).axesStuck else none := by
  simp only [becomesStuck, Link.sensedLevel, hst, ho, hd, State.stuckAt, decide_eq_true_eq]

theorem stuckEnds_spec {s : State} (hst : s.lc.st = .stuck) : stuckEnds s =
    if 6 * s.rate.tau ≤ s.recessive then some s.axesStuckEnd.linkAfterBreak else none := by
  simp only [stuckEnds, hst, true_and, linkQuiet_iff]

/-- The stuck period ends with the owed break: the TRACK axes have started again already. -/
theorem axesStuckEnd_owed {s : State} (h : s.lc.owed = true) : s.axesStuckEnd.linkAfterBreak = { s with
    axes := s.marksBroken (s.restartedAxes (.pending s.blankTime))
    al := s.al.raiseWhen s.someTrackLost .axis
    lc := { s.lc with
      st := .breakTx, tick := none, trans := none, waiting := none, rx := none, reading := none, dominant := none,
      owed := false, breakOver := false, breakEnd := some (s.clk.tb + s.bits 40) } } := by
  rw [axesStuckEnd_spec, linkAfterBreak_owed (by exact h)]
  have haxes := restartedAxes_twice s (.until s.blankUntil) (.pending s.blankTime)
  have hlost := someTrackLost_restarted s (.until s.blankUntil)
  exact congrArg₂ (fun ax lost => ({ s with
    axes := s.marksBroken ax, al := (s.al.raiseWhen s.someTrackLost .axis).raiseWhen lost .axis
    lc := _ } : State)) haxes hlost

/-- Settles O47: the measure makes the wire STUCK, six recessive bit times end it. -/
theorem stuckWire : Obligations.StuckWire := by
  intro dt s u lost
  refine ⟨fun d hst ho hd => ⟨fun hlong => ?_, fun hshort => ?_⟩, fun hst hq => ⟨fun hno => ?_, fun howed => ?_⟩,
    fun hst hq => ?_⟩
  · refine exec_settled (c := .stuck dt) (((becomesStuck_spec (s := u) hst ho hd).trans (if_pos hlong)).trans ?_)
    rw [axesStuck_spec]
    rfl
  · exact exec_of_none (c := .stuck dt) nofun
      ((becomesStuck_spec (s := u) hst ho hd).trans (if_neg (Nat.not_le.2 hshort)))
  · rw [← nextTick_eq]
    refine exec_settled (c := .stuckEnd dt) (((stuckEnds_spec (s := u) hst).trans (if_pos hq)).trans ?_)
    rw [axesStuckEnd_spec, linkAfterBreak_idle _ (by exact hno)]
    rfl
  · refine exec_settled (c := .stuckEnd dt) (((stuckEnds_spec (s := u) hst).trans (if_pos hq)).trans ?_)
    exact congrArg some (axesStuckEnd_owed howed)
  · exact exec_of_none (c := .stuckEnd dt) nofun
      ((stuckEnds_spec (s := u) hst).trans (if_neg (Nat.not_le.2 hq)))

end Sys2Proof.Machine

/-! PROOFS. The MARK on the wire: settles O48. -/

namespace Sys2Proof.Machine

/-! ## The bits of a MARK (R96, R97, R103) -/

/-- A byte goes out most significant bit first. -/
theorem byteBits_eq (b : Byte) : byteBits b =
    [b.getLsbD 7, b.getLsbD 6, b.getLsbD 5, b.getLsbD 4, b.getLsbD 3, b.getLsbD 2, b.getLsbD 1, b.getLsbD 0] := by
  simp [byteBits, List.range_succ, BitVec.getMsbD]

theorem markBits_eq (unit : Nat) (seq : Byte) : markBits unit seq =
    [false, false, false, true] ++ byteBits (markHeader unit) ++ byteBits seq ++
      byteBits (crc8 [markHeader unit, seq]) ++ [true, true] := by
  simp [markBits, markBytes, leadBits]

/-- The header's kind is MARK, its length 1. -/
theorem markHeader_fields : ∀ unit < 8, (markHeader unit).extractLsb' 6 2 = 1 ∧
    ((markHeader unit).extractLsb' 3 3).toNat = unit ∧ (markHeader unit).extractLsb' 0 3 = 1 := by
  decide

/-- The CHECKs of the book's worked MARK, reply and NOTE (section 5.3). -/
theorem crc8_worked :
    crc8 [0x49, 0x05] = 0x2A ∧ crc8 [0x05, 0x00, 0x9C, 0x40, 0x00] = 0xDC ∧ crc8 [0x11, 0x03] = 0x9C := by
  decide +kernel

/-! ## What the part drives (R96, R101, R102, R116) -/

/-- With no misread bit no bit read differs from the bit sent. -/
theorem differsAt_none {a b : List Bool} (h : differsAt a b = none) {i : Nat} {v w : Bool} (ha : a[i]? = some v)
    (hb : b[i]? = some w) : v = w := by
  induction a generalizing b i with
  | nil => cases ha
  | cons x a ih =>
    cases b with
    | nil => cases hb
    | cons y b =>
      by_cases hxy : x = y
      · cases i with
        | zero =>
          cases ha; cases hb
          exact hxy
        | succ i =>
          simp only [differsAt, hxy, if_true, Option.map_eq_none_iff] at h
          exact ih h (by simpa using ha) (by simpa using hb)
      · simp [differsAt, hxy] at h

/-- What the part drives lies before any bit misread. -/
theorem drivenBits_before {sent bits : List Bool} (level : Level) {i : Nat} {v w : Bool} (hs : sent[i]? = some v)
    (hb : bits[i]? = some w) (hne : v ≠ w) : (drivenBits sent bits level).length ≤ i := by
  cases h : differsAt sent bits with
  | none => exact absurd (differsAt_none h hs hb) hne
  | some j =>
    simp only [drivenBits, h, List.length_take]
    exact le_trans (Nat.min_le_left _ _) (differsAt_le h hs hb hne)

/-- A frame read back as sent on a recessive wire is driven whole. -/
theorem drivenBits_whole {sent bits : List Bool} (h : bits.take sent.length = sent.take bits.length) :
    drivenBits sent bits .high = sent := by
  simp only [drivenBits, differsAt_eq_none h]

theorem drivesAxl_sending {s : State} {r : Reading} (h : s.lc.st = .sending) (hr : s.lc.reading = some r) :
    s.drivesAxl = !(s.driven.getD (s.into r / s.rate.tau) true) := by
  simp only [State.drivesAxl, h, hr]

theorem driven_none {s : State} (h : s.lc.st ≠ .sending) : s.driven = [] := by
  unfold State.driven
  split
  · rename_i k _ _
    exact absurd k h
  · rfl

/-! ## What it reads (R96) -/

theorem pass_reading {s : State} {r : Reading} (d : Time) (h : s.clk.resetn = true) (hst : s.lc.st ≠ .off)
    (hr : s.lc.reading = some r) : (s.pass d).lc.reading =
      some (r.sampled s.rate.tau (s.clk.tb + d - r.start).toNat s.wire.level s.driven) := by
  rw [pass_eq_listen d h, listen_reading (s := s.passed d) _ hst]
  change s.lc.reading.map _ = _
  rw [hr]
  rfl

/-- A link that drives nothing reads the level of the wire. -/
theorem sampled_listening (r : Reading) (tau x : Nat) (level : Level) : r.sampled tau x level [] = { r with
    bits := r.bits ++ List.replicate (min (middles tau x) 76 - r.bits.length) (level == .high) } := by
  simp only [Reading.sampled, List.getD_nil, Bool.and_true, List.map_const', List.length_range]
  rfl

/-- On a recessive wire the part reads back what it sends. -/
theorem sampled_sending (start : Time) (tau x : Nat) (sent : List Bool) (h : middles tau x ≤ sent.length)
    (hm : middles tau x ≤ 76) : ({ start := start, bits := [] } : Reading).sampled tau x .high sent =
      { start := start, bits := sent.take (middles tau x) } := by
  have hbits : (List.range (middles tau x)).map (fun i => sent.getD i true) = sent.take (middles tau x) := by
    refine List.ext_getElem (by simp [h]) fun i hi hi' => ?_
    simp only [List.length_map, List.length_range] at hi
    simp [List.getD_eq_getElem?_getD, List.getElem?_eq_getElem (show i < sent.length by omega)]
  simp only [Reading.sampled, List.length_nil, Nat.zero_add, Nat.sub_zero, List.nil_append, frameBitsMax,
    Nat.min_eq_left hm, ← hbits]
  rfl

theorem tau_bounds (r : LinkRate) : 0 < r.tau ∧ r.tau ≤ 4 := by cases r <;> decide

/-- The middles passed in a whole number of bit times. -/
theorem middles_mul (r : LinkRate) (k : Nat) : middles r.tau (k * r.tau) = k := by
  cases r <;> simp only [middles, LinkRate.tau] <;> omega

theorem time_since (t : Time) {n : Nat} (h : n < 2 ^ 32) : (t + micros n - t).toNat = n := by
  rw [BitVec.add_comm, BitVec.add_sub_cancel, micros, BitVec.toNat_ofNat, Nat.mod_eq_of_lt h]

/-- Settles O48: the MARK's bits, then what the part drives and reads of them. -/
theorem axlCarriesTheMark : Obligations.AxlCarriesTheMark := by
  refine ⟨fun unit seq hu => ?_, crc8_worked, fun s m r hst hm hr => ?_,
    fun s => ⟨fun e hst he => ?_, fun hst he => ?_, fun hns hnb => ?_⟩, fun s m k hreset hst hm hl hr hk => ?_,
    fun s r d hreset hst hr => ?_⟩
  · intro byte
    obtain ⟨hkind, hunit, hlen⟩ := markHeader_fields unit hu
    refine ⟨markHeader unit, hkind, hunit, hlen, ?_⟩
    simp only [markBits_eq, byteBits_eq]
    rfl
  · intro sent
    have hdrives := drivesAxl_sending hst hr
    rw [driven_sending hst hm hr] at hdrives
    refine ⟨fun hl hsame => ?_, fun i v w hv hw hne hd => ?_⟩
    · rw [hdrives, hl, drivenBits_whole (by rw [Transaction.sent, markBits_length]; exact hsame)]
      rfl
    · refine lt_of_not_ge fun hge => ?_
      have hout := (drivenBits_before s.wire.level (sent := m.sent) hv hw hne).trans hge
      rw [hdrives, List.getD_eq_default _ _ hout] at hd
      exact nomatch hd
  · simp only [State.drivesAxl, hst, he]
  · simp only [State.drivesAxl, hst, he]
  · unfold State.drivesAxl
    split
    · rename_i h _
      exact absurd h hns
    · rename_i h _
      exact absurd h hnb
    · rfl
  · obtain ⟨-, htau⟩ := tau_bounds s.rate
    have hbound : k * s.rate.tau < 2 ^ 32 := lt_of_le_of_lt (Nat.mul_le_mul hk htau) (by decide)
    have hmid := middles_mul s.rate k
    have hdrv : s.driven = markBits m.unit m.seq := by
      rw [driven_sending hst hm hr, hl]
      exact drivenBits_whole (by simp)
    rw [pass_reading _ hreset (by rw [hst]; exact nofun) hr, hdrv, hl]
    dsimp only
    rw [time_since _ hbound, sampled_sending _ _ _ _ (by rw [hmid, markBits_length]; exact hk) (by omega), hmid]
  · intro x middles
    rw [pass_reading d hreset (by rw [hst]; exact nofun) hr, driven_none (by rw [hst]; exact nofun),
      sampled_listening]
    rfl

end Sys2Proof.Machine

/-! PROOFS. Rounding and holding in the correction arithmetic: the rules of chapter 3's operations. -/

namespace Sys2Proof.Machine

/-! ## Rounding -/

/-- Where the nearest integer lies: less than half a unit above, at most half a unit below. -/
theorem roundDiv_nonneg {n d : Int} (hd : 0 < d) (hn : 0 ≤ n) :
    2 * (roundDiv n d * d) ≤ 2 * n + d ∧ 2 * n + d < 2 * (roundDiv n d * d) + 2 * d := by
  rw [roundDiv, if_pos hn]
  have hle := Int.ediv_mul_le (2 * n + d) (show 2 * d ≠ 0 by omega)
  have hlt := Int.lt_ediv_add_one_mul_self (2 * n + d) (show 0 < 2 * d by omega)
  generalize (2 * n + d) / (2 * d) = q at *
  constructor <;> linarith

/-- Halves go away from zero, so rounding commutes with the sign. -/
theorem roundDiv_neg {n : Int} (d : Int) (hn : n < 0) : roundDiv n d = -roundDiv (-n) d := by
  rw [roundDiv, roundDiv, if_neg (by omega), if_pos (by omega)]

theorem roundDiv_roundsTo (n : Int) {d : Int} (hd : 0 < d) : RoundsTo n d (roundDiv n d) := by
  by_cases hn : 0 ≤ n
  · obtain ⟨hle, hlt⟩ := roundDiv_nonneg hd hn
    constructor <;> omega
  · obtain ⟨hle, hlt⟩ := roundDiv_nonneg (n := -n) hd (by omega)
    have hp : roundDiv n d * d = -(roundDiv (-n) d * d) := by rw [roundDiv_neg d (by omega), Int.neg_mul]
    constructor <;> omega

theorem roundsTo_neg {n d q : Int} : RoundsTo (-n) (-d) q ↔ RoundsTo n d q := by
  have h : -n - q * -d = -(n - q * d) := by ring
  rw [RoundsTo, RoundsTo, h, Int.mul_neg]
  simp only [Int.natAbs_neg]

theorem roundQuot_roundsTo (n : Int) {d : Int} (hd : d ≠ 0) : RoundsTo n d (roundQuot n d) := by
  unfold roundQuot
  split
  · exact roundsTo_neg.1 (roundDiv_roundsTo _ (by omega))
  · exact roundDiv_roundsTo _ (by omega)

/-- A rounded quotient keeps every integer bound of the exact one. -/
theorem RoundsTo.le {n d q hi : Int} (h : RoundsTo n d q) (hd : 0 < d) (hn : n ≤ hi * d) : q ≤ hi := by
  refine le_of_not_gt fun hlt => ?_
  have hmul : (hi + 1) * d ≤ q * d := Int.mul_le_mul_of_nonneg_right (by omega) (by omega)
  have hhalf := h.1
  rw [Int.add_mul, Int.one_mul] at hmul
  omega

theorem RoundsTo.ge {n d q lo : Int} (h : RoundsTo n d q) (hd : 0 < d) (hn : lo * d ≤ n) : lo ≤ q := by
  refine le_of_not_gt fun hlt => ?_
  have hmul : (q + 1) * d ≤ lo * d := Int.mul_le_mul_of_nonneg_right (by omega) (by omega)
  have hhalf := h.1
  rw [Int.add_mul, Int.one_mul] at hmul
  omega

/-- A quotient without remainder is not changed. -/
theorem RoundsTo.of_mul {d q p : Int} (h : RoundsTo (p * d) d q) (hd : d ≠ 0) : q = p := by
  rcases lt_or_gt_of_ne hd with hneg | hpos
  · rw [← roundsTo_neg, ← Int.mul_neg] at h
    exact le_antisymm (h.le (by omega) le_rfl) (h.ge (by omega) le_rfl)
  · exact le_antisymm (h.le hpos le_rfl) (h.ge hpos le_rfl)

theorem roundsTo_zero {d : Int} (hd : d ≠ 0) : RoundsTo 0 d 0 :=
  ⟨by simp, fun h => absurd h (by simp; omega)⟩

/-! ## Holding at a limit -/

theorem clamp_eq {lo hi : Int} (h : lo ≤ hi) (x : Int) : clamp lo hi x = max lo (min hi x) := by
  unfold clamp
  split
  · omega
  · split <;> omega

theorem clamp_within {lo hi : Int} (h : lo ≤ hi) (x : Int) : lo ≤ clamp lo hi x ∧ clamp lo hi x ≤ hi := by
  rw [clamp_eq h]
  omega

theorem clamp_inside {lo hi x : Int} (h1 : lo ≤ x) (h2 : x ≤ hi) : clamp lo hi x = x := by
  unfold clamp
  rw [if_neg (by omega), if_neg (by omega)]

/-! ## A straight line between two points -/

/-- What a line from `(x, y)` to `(x', y')` rises by between its ends lies between nothing and the whole. -/
theorem RoundsTo.rise_within {x x' dy t q : Int} (h : RoundsTo (dy * (t - x)) (x' - x) q) (hne : x ≠ x')
    (ht : (x ≤ t ∧ t ≤ x') ∨ (x' ≤ t ∧ t ≤ x)) : min 0 dy ≤ q ∧ q ≤ max 0 dy := by
  have hscaled : ∀ {a b : Int}, 0 < b → 0 ≤ a → a ≤ b → RoundsTo (dy * a) b q → min 0 dy ≤ q ∧ q ≤ max 0 dy := by
    intro a b hb ha hab hr
    refine ⟨hr.ge hb ?_, hr.le hb ?_⟩ <;> rcases le_total 0 dy with hy | hy
    · rw [min_eq_left hy, Int.zero_mul]
      exact Int.mul_nonneg hy ha
    · rw [min_eq_right hy]
      exact Int.mul_le_mul_of_nonpos_left hy hab
    · rw [max_eq_right hy]
      exact Int.mul_le_mul_of_nonneg_left hab hy
    · rw [max_eq_left hy, Int.zero_mul]
      exact Int.mul_nonpos_of_nonpos_of_nonneg hy ha
  rcases ht with ⟨h1, h2⟩ | ⟨h1, h2⟩
  · exact hscaled (by omega) (by omega) (by omega) h
  · rw [← roundsTo_neg, ← Int.mul_neg] at h
    exact hscaled (by omega) (by omega) (by omega) h

theorem RoundsTo.rise_end {x x' dy q : Int} (h : RoundsTo (dy * (x' - x)) (x' - x) q) (hne : x ≠ x') : q = dy :=
  h.of_mul (by omega)

end Sys2Proof.Machine

/-! PROOFS. Positions become coordinates: settles O58. -/

namespace Sys2Proof.Machine

/-! ## Lists in order -/

theorem pairwise_get {α : Type} {R : α → α → Prop} {xs : List α} (h : xs.Pairwise R) {i j : Nat} {a b : α}
    (hi : xs[i]? = some a) (hj : xs[j]? = some b) (hij : i < j) : R a b := by
  obtain ⟨hi', rfl⟩ := List.getElem?_eq_some_iff.1 hi
  obtain ⟨hj', rfl⟩ := List.getElem?_eq_some_iff.1 hj
  exact List.pairwise_iff_getElem.1 h i j hi' hj' hij

/-- The counts of a map's points, or the times of a track, in their order. -/
theorem counts_get {β : Type} {points : List (Int × β)} {R : Int → Int → Prop} (h : (points.map Prod.fst).Pairwise R)
    {i j : Nat} {x y : Int × β} (hi : points[i]? = some x) (hj : points[j]? = some y) (hij : i < j) : R x.1 y.1 :=
  pairwise_get (R := fun a b : Int × β => R a.1 b.1) (List.pairwise_map.1 h) hi hj hij

/-! ## Maps (R54, R55) -/

/-- A position lies between two counts, in either direction. -/
def Encloses (c c' p : Int) : Prop := (c ≤ p ∧ p ≤ c') ∨ (c' ≤ p ∧ p ≤ c)

/-- The counts of a map rise, or fall. -/
def Directed (points : List (Int × Nat)) : Prop :=
  (points.map Prod.fst).Pairwise (· < ·) ∨ (points.map Prod.fst).Pairwise (· > ·)

theorem Directed.tail {x : Int × Nat} {points : List (Int × Nat)} (h : Directed (x :: points)) : Directed points :=
  h.imp (fun h => (List.pairwise_cons.1 h).2) (fun h => (List.pairwise_cons.1 h).2)

theorem Directed.ne {points : List (Int × Nat)} (h : Directed points) {i j : Nat} {x y : Int × Nat}
    (hi : points[i]? = some x) (hj : points[j]? = some y) (hij : i < j) : x.1 ≠ y.1 := by
  rcases h with h | h
  · exact ne_of_lt (counts_get h hi hj hij)
  · exact ne_of_gt (counts_get h hi hj hij)

/-- A position that two segments enclose is the point at which the second follows on the first. -/
theorem Directed.meets {points : List (Int × Nat)} (h : Directed points) {k : Nat} {w x y z : Int × Nat} {p : Int}
    (h0 : points[0]? = some w) (h1 : points[1]? = some x) (hk : points[k + 1]? = some y) (hk1 : points[k + 2]? = some z)
    (hwx : Encloses w.1 x.1 p) (hyz : Encloses y.1 z.1 p) : k = 0 ∧ p = x.1 := by
  unfold Encloses at hwx hyz
  have hkeq : k = 0 ∨ 1 < k + 1 := by omega
  rcases h with h | h <;>
  · have hwx' := counts_get h h0 h1 (by omega)
    have hyz' := counts_get h hk hk1 (by omega)
    rcases hkeq with rfl | hlt
    · rw [zero_add, h1, Option.some.injEq] at hk
      subst hk
      exact ⟨rfl, by omega⟩
    · have := counts_get h h1 hk hlt
      omega

/-- The segment of a map is a natural number: it lies between the coordinates of its ends. -/
theorem segment_rises {c c' p : Int} (v v' : Nat) (hne : c ≠ c') (h : Encloses c c' p) :
    ∃ q, RoundsTo (((v' : Int) - v) * (p - c)) (c' - c) q ∧
      (((v : Int) + roundQuot (((v' : Int) - v) * (p - c)) (c' - c)).toNat : Int) = v + q := by
  have hround := roundQuot_roundsTo (((v' : Int) - v) * (p - c)) (show c' - c ≠ 0 by omega)
  have hwithin := hround.rise_within hne h
  exact ⟨_, hround, by omega⟩

/-- The segment found first is on the line of every segment that encloses the position. -/
theorem mapSegment_spec {points : List (Int × Nat)} (hdir : Directed points) {k : Nat} {c c' p : Int} {v v' : Nat}
    (hk : points[k]? = some (c, v)) (hk1 : points[k + 1]? = some (c', v')) (h : Encloses c c' p) :
    ∃ q, RoundsTo (((v' : Int) - v) * (p - c)) (c' - c) q ∧ (mapSegment points p : Int) = v + q := by
  induction points generalizing k with
  | nil => cases hk
  | cons a points ih =>
    match points with
    | [] => cases k <;> cases hk1
    | b :: rest =>
      by_cases hfirst : Encloses a.1 b.1 p
      · have hseg : mapSegment (a :: b :: rest) p =
            ((a.2 : Int) + roundQuot (((b.2 : Int) - a.2) * (p - a.1)) (b.1 - a.1)).toNat := if_pos hfirst
        have hab : a.1 ≠ b.1 := hdir.ne (i := 0) (j := 1) rfl rfl (by omega)
        obtain ⟨q, hq, hv⟩ := segment_rises a.2 b.2 hab hfirst
        rw [hseg]
        cases k with
        | zero =>
          cases hk; cases hk1
          exact ⟨q, hq, hv⟩
        | succ k =>
          obtain ⟨rfl, rfl⟩ := hdir.meets (w := a) (x := b) rfl rfl hk hk1 hfirst h
          have hne : c ≠ c' := hdir.ne hk hk1 (by omega)
          cases hk
          rw [hv, hq.rise_end hab, Int.sub_self, Int.mul_zero]
          exact ⟨0, roundsTo_zero (by omega), by omega⟩
      · have hseg : mapSegment (a :: b :: rest) p = mapSegment (b :: rest) p := if_neg hfirst
        rw [hseg]
        cases k with
        | zero =>
          cases hk; cases hk1
          exact absurd h hfirst
        | succ k => exact ih hdir.tail hk hk1

section
variable {points : List (Int × Nat)} {p c c' : Int} {v v' : Nat} (hh : points.head? = some (c, v))
  (hl : points.getLast? = some (c', v'))
include hh hl

theorem mapPosition_before (h : (c < c' ∧ p < c) ∨ (c' < c ∧ c < p)) : mapPosition points p = (v, true) := by
  simp only [mapPosition, hh, hl]
  rcases h with ⟨hr, hp⟩ | ⟨hr, hp⟩
  · rw [if_pos hr, if_pos hp]
  · rw [if_neg (by omega), if_pos hp]

theorem mapPosition_after (h : (c < c' ∧ c' < p) ∨ (c' < c ∧ p < c')) : mapPosition points p = (v', true) := by
  simp only [mapPosition, hh, hl]
  rcases h with ⟨hr, hp⟩ | ⟨hr, hp⟩
  · rw [if_pos hr, if_neg (by omega), if_pos hp]
  · rw [if_neg (by omega), if_neg (by omega), if_pos hp]

theorem mapPosition_between (h : (c < c' ∧ c ≤ p ∧ p ≤ c') ∨ (c' < c ∧ c' ≤ p ∧ p ≤ c)) :
    mapPosition points p = (mapSegment points p, false) := by
  simp only [mapPosition, hh, hl]
  rcases h with ⟨hr, h1, h2⟩ | ⟨hr, h1, h2⟩
  · rw [if_pos hr, if_neg (by omega), if_neg (by omega)]
  · rw [if_neg (by omega), if_neg (by omega), if_neg (by omega)]

end

/-- A position inside a segment lies between the counts at the map's ends. -/
theorem Directed.between {points : List (Int × Nat)} (h : Directed points) {k : Nat} {w x y z : Int × Nat} {p : Int}
    (hw : points.head? = some w) (hz : points.getLast? = some z) (hx : points[k]? = some x)
    (hy : points[k + 1]? = some y) (hp : Encloses x.1 y.1 p) :
    (w.1 < z.1 ∧ w.1 ≤ p ∧ p ≤ z.1) ∨ (z.1 < w.1 ∧ z.1 ≤ p ∧ p ≤ w.1) := by
  rw [List.head?_eq_getElem?] at hw
  rw [List.getLast?_eq_getElem?] at hz
  have hlen := (List.getElem?_eq_some_iff.1 hy).1
  have hfirst : (k = 0 ∧ w = x) ∨ 0 < k := by
    rcases Nat.eq_zero_or_pos k with rfl | hk
    · exact .inl ⟨rfl, Option.some.inj (hw.symm.trans hx)⟩
    · exact .inr hk
  have hlast : (y = z) ∨ k + 1 < points.length - 1 := by
    rcases Nat.lt_or_ge (k + 1) (points.length - 1) with hk | hk
    · exact .inr hk
    · rw [show points.length - 1 = k + 1 by omega] at hz
      exact .inl (Option.some.inj (hy.symm.trans hz))
  unfold Encloses at hp
  rcases h with h | h
  · refine .inl ?_
    have hxy := counts_get h hx hy (by omega)
    have hwx : w.1 ≤ x.1 := by
      rcases hfirst with ⟨-, rfl⟩ | hk
      · exact le_rfl
      · exact le_of_lt (counts_get h hw hx hk)
    have hyz : y.1 ≤ z.1 := by
      rcases hlast with rfl | hk
      · exact le_rfl
      · exact le_of_lt (counts_get h hy hz hk)
    omega
  · refine .inr ?_
    have hxy := counts_get h hx hy (by omega)
    have hwx : x.1 ≤ w.1 := by
      rcases hfirst with ⟨-, rfl⟩ | hk
      · exact le_rfl
      · exact le_of_lt (counts_get h hw hx hk)
    have hyz : z.1 ≤ y.1 := by
      rcases hlast with rfl | hk
      · exact le_rfl
      · exact le_of_lt (counts_get h hy hz hk)
    omega

/-! ## The band computation, stage by stage (R45) -/

/-- What stage 2 gives for the iris and for the zoom. -/
def irisStage (s : Snapshot) : Nat × Bool × Bool × Option Nat := auxCoordinate s.settings.iris s.axes.iris s.held.a
def zoomStage (s : Snapshot) : Nat × Bool × Bool × Option Nat := auxCoordinate s.settings.zoom s.axes.zoom s.held.z

/-- Stage 4, unity for an identity band. -/
def breathingStage (s : Snapshot) (ts te : Time) : Breathing :=
  if isIdentity s then Breathing.unity else stage4 s.settings s.store (focusStage s ts te).u (zoomStage s).1

/-- Stage 5, no gain for an identity band. -/
def shadingStage (s : Snapshot) (ts te : Time) : Int × Int × Int × Bool :=
  if isIdentity s then (0, 0, 0, false)
  else stage5 s.settings s.store (focusStage s ts te).u (zoomStage s).1 (irisStage s).1

/-- The record gathers what the stages give. -/
theorem computeBand_eq (s : Snapshot) (ts te : Time) : computeBand s ts te =
    { pMean := (focusStage s ts te).pMean, u := (focusStage s ts te).u, z := (zoomStage s).1, a := (irisStage s).1
      sx := (breathingStage s ts te).sx, sy := (breathingStage s ts te).sy
      shx := (breathingStage s ts te).shx, shy := (breathingStage s ts te).shy
      k1 := (shadingStage s ts te).1, k2 := (shadingStage s ts te).2.1, k3 := (shadingStage s ts te).2.2.1
      flags :=
        { extrapolated := (focusStage s ts te).extrapolated, limited := (focusStage s ts te).limited
          early := (focusStage s ts te).early, held := (focusStage s ts te).held, fixed := (focusStage s ts te).fixed
          mapEdge := (focusStage s ts te).mapEdge || (irisStage s).2.1 || (zoomStage s).2.1
          auxHeld := (irisStage s).2.2.1 || (zoomStage s).2.2.1
          scaleLimit := (breathingStage s ts te).scaleLimit, shiftLimit := (breathingStage s ts te).shiftLimit
          gainLimit := (shadingStage s ts te).2.2.2, identity := isIdentity s
          degraded := (focusStage s ts te).limited || (focusStage s ts te).early || (focusStage s ts te).held ||
            isIdentity s
          late := false }
      focusUsed := (focusStage s ts te).used, irisUsed := (irisStage s).2.2.2, zoomUsed := (zoomStage s).2.2.2 } := rfl

/-! ## Iris and zoom (R41, R57, R58) -/

theorem usableState_track (st : AxisState) : usableState .track st = true ↔ st = .live ∨ st = .stale := by
  cases st <;> decide

theorem auxCoordinate_fixed {cfg : AxisSettings} (r : AxisRec) (held : Option Nat) (h : cfg.mode = .fixed) :
    auxCoordinate cfg r held = (cfg.fixedCoord, false, false, none) := by simp only [auxCoordinate, h]

theorem auxCoordinate_off {cfg : AxisSettings} (r : AxisRec) (held : Option Nat) (h : cfg.mode = .off) :
    auxCoordinate cfg r held = (0, false, false, none) := by simp only [auxCoordinate, h]

theorem auxCoordinate_held {cfg : AxisSettings} {r : AxisRec} (held : Option Nat) (h : cfg.mode = .track)
    (hr : ¬ (r.st = .live ∨ r.st = .stale)) : auxCoordinate cfg r held = (held.getD 0, false, true, none) := by
  simp only [auxCoordinate, h, if_neg (mt (usableState_track r.st).1 hr)]

theorem auxCoordinate_live {cfg : AxisSettings} {r : AxisRec} (held : Option Nat) (h : cfg.mode = .track)
    (hr : r.st = .live ∨ r.st = .stale) : auxCoordinate cfg r held =
      ((mapPosition cfg.points (meanPosition cfg.average r.track)).1,
        (mapPosition cfg.points (meanPosition cfg.average r.track)).2, false,
        some (mapPosition cfg.points (meanPosition cfg.average r.track)).1) := by
  simp only [auxCoordinate, h, if_pos ((usableState_track r.st).2 hr)]

theorem meanPosition_roundsTo {n : Nat} {track : List Sample} (ht : track ≠ []) (hn : 1 ≤ n) :
    RoundsTo ((track.drop (track.length - n)).map (·.pos.toInt)).sum (track.drop (track.length - n)).length
      (meanPosition n track) := by
  have hpos : 0 < track.length := List.length_pos_iff.2 ht
  exact roundDiv_roundsTo _ (by rw [List.length_drop]; omega)

/-! ## The focus cases (R47, R56) -/

theorem focusStage_off {s : Snapshot} (ts te : Time) (h : s.settings.focus.mode = .off) :
    focusStage s ts te = FocusResult.plain 0 s.settings.lockCoord := by
  simp only [focusStage, focusCase, h]

theorem focusStage_fixed {s : Snapshot} (ts te : Time) (h : s.settings.focus.mode = .fixed) :
    focusStage s ts te = { FocusResult.plain 0 s.settings.focus.fixedCoord with fixed := true } := by
  simp only [focusStage, focusCase, h]

/-- The focus axis can be used: LIVE or STALE, with a track. -/
theorem focusUsable_iff (s : Snapshot) :
    (usableState .track s.axes.focus.st && !s.axes.focus.track.isEmpty) = true ↔
      (s.axes.focus.st = .live ∨ s.axes.focus.st = .stale) ∧ s.axes.focus.track ≠ [] := by
  rw [Bool.and_eq_true, usableState_track, Bool.not_eq_true', ← Bool.not_eq_true, List.isEmpty_iff]

theorem focusStage_held {s : Snapshot} (ts te : Time) (h : s.settings.focus.mode = .track)
    (hu : ¬ ((s.axes.focus.st = .live ∨ s.axes.focus.st = .stale) ∧ s.axes.focus.track ≠ [])) :
    focusStage s ts te =
      { FocusResult.plain (s.held.pos.getD 0) (s.held.u.getD s.settings.lockCoord) with held := true } := by
  simp only [focusStage, focusCase, h, if_neg (mt (focusUsable_iff s).1 hu)]

theorem focusStage_usable {s : Snapshot} (ts te : Time) (h : s.settings.focus.mode = .track)
    (hu : (s.axes.focus.st = .live ∨ s.axes.focus.st = .stale) ∧ s.axes.focus.track ≠ []) :
    focusStage s ts te = focusUsable s.settings (s.axes.focus.track.map (relSample ts)) (te - ts).toInt := by
  simp only [focusStage, focusCase, h, if_pos ((focusUsable_iff s).2 hu)]

/-- A focus that was used has been mapped; no other has an edge. -/
theorem focusStage_mapped (s : Snapshot) (ts te : Time) :
    ((focusStage s ts te).used = none → (focusStage s ts te).mapEdge = false) ∧
    ((focusStage s ts te).used ≠ none → mapPosition s.settings.focus.points (focusStage s ts te).pMean =
      ((focusStage s ts te).u, (focusStage s ts te).mapEdge)) := by
  unfold focusStage
  cases focusCase s
  case usable => exact ⟨nofun, fun _ => rfl⟩
  all_goals exact ⟨fun _ => rfl, fun h => absurd rfl h⟩

/-- Settles O58: the segment that encloses a position, the ends of a map, and the stage of each axis. -/
theorem positionsBecomeCoordinates : Obligations.PositionsBecomeCoordinates := by
  refine ⟨fun points pos hlen hdir => ⟨fun k c v c' v' hk hk1 hpos => ?_, fun c v c' v' hh hl => ?_⟩, fun p ts te => ?_⟩
  · obtain ⟨w, hw⟩ : ∃ w, points.head? = some w := ⟨_, List.head?_eq_some_head (by rintro rfl; cases hk)⟩
    obtain ⟨z, hz⟩ : ∃ z, points.getLast? = some z := ⟨_, List.getLast?_eq_some_getLast (by rintro rfl; cases hk)⟩
    obtain ⟨q, hq, hv⟩ := mapSegment_spec hdir hk hk1 hpos
    have hmap := mapPosition_between hw hz (Directed.between hdir hw hz hk hk1 hpos)
    exact ⟨q, hq, by rw [hmap]; exact hv, by rw [hmap]⟩
  · exact ⟨mapPosition_before hh hl, mapPosition_after hh hl⟩
  · intro r live gives
    have hgives : ∀ cfg x held, gives cfg x held (auxCoordinate cfg x held).1 (auxCoordinate cfg x held).2.2.2
        (auxCoordinate cfg x held).2.1 (auxCoordinate cfg x held).2.2.1 := by
      intro cfg x held
      refine ⟨fun h => ?_, fun h => ?_, fun h hx => ?_, fun h hx ht hn => ?_⟩
      · rw [auxCoordinate_fixed x held h]
        exact ⟨rfl, rfl, rfl, rfl⟩
      · rw [auxCoordinate_off x held h]
        exact ⟨rfl, rfl, rfl, rfl⟩
      · rw [auxCoordinate_held held h hx]
        exact ⟨rfl, rfl, rfl, rfl⟩
      · rw [auxCoordinate_live held h hx]
        exact ⟨_, meanPosition_roundsTo ht hn, rfl, rfl, rfl⟩
    obtain ⟨hplain, hmapped⟩ := focusStage_mapped p ts te
    exact ⟨_, _, _, _, _, hgives p.settings.iris p.axes.iris p.held.a, hgives p.settings.zoom p.axes.zoom p.held.z,
      hplain, hmapped, rfl, rfl⟩

end Sys2Proof.Machine

/-! PROOFS. Stages 3 to 5 and the record's bounds: settles O59 and O60. -/

namespace Sys2Proof.Machine

/-! ## Cells (R59) -/

/-- The last number below `n` with a property that 0 has. -/
theorem lastWith_spec {P : Nat → Bool} (h : P 0 = true) (n : Nat) :
    ∃ i, ((List.range (n + 1)).filter P).getLastD 0 = i ∧ i ≤ n ∧ P i = true ∧ ∀ j, i < j → j ≤ n → P j = false := by
  induction n with
  | zero => exact ⟨0, by simp [h], le_rfl, h, fun j h1 h2 => by omega⟩
  | succ n ih =>
    rw [List.range_succ, List.filter_append]
    cases hn : P (n + 1)
    · obtain ⟨i, hi, hle, hP, hlast⟩ := ih
      refine ⟨i, by simpa [hn] using hi, by omega, hP, fun j h1 h2 => ?_⟩
      rcases Nat.lt_or_ge n j with hj | hj
      · rw [show j = n + 1 by omega, hn]
      · exact hlast j h1 hj
    · exact ⟨n + 1, by simp [hn], le_rfl, hn, fun j h1 h2 => by omega⟩

theorem nth_of {xs : List Nat} {i a : Nat} (h : xs[i]? = some a) : nth xs i = a := by
  rw [nth, List.getD_eq_getElem?_getD, h]; rfl

/-- A list of node positions: rising from 0 to 65,535. -/
structure NodePositions (xs : List Nat) : Prop where
  rising : xs.Pairwise (· < ·)
  first : xs.head? = some 0
  last : xs.getLast? = some 65535

theorem NodePositions.length {xs : List Nat} (h : NodePositions xs) : 2 ≤ xs.length := by
  obtain ⟨-, hf, hl⟩ := h
  match xs, hf, hl with
  | [a], hf, hl => cases hf; cases hl
  | _ :: _ :: _, _, _ => simp

theorem NodePositions.get_last {xs : List Nat} (h : NodePositions xs) : xs[xs.length - 1]? = some 65535 := by
  rw [← List.getLast?_eq_getElem?, h.last]

/-- The last node but the top that is not above a coordinate. -/
theorem NodePositions.cell_index {xs : List Nat} (h : NodePositions xs) (x : Nat) (hx : x ≤ 65535) :
    ∃ i lo hi, cell xs x = (i, (x - lo) * 65536 / (hi - lo)) ∧ xs[i]? = some lo ∧ xs[i + 1]? = some hi ∧ lo ≤ x ∧
      lo < hi ∧ hi ≤ 65535 ∧ (x < hi ∨ (x = 65535 ∧ i + 2 = xs.length ∧ hi = 65535)) := by
  have hlen := h.length
  have hzero : xs[0]? = some 0 := by rw [← List.head?_eq_getElem?, h.first]
  obtain ⟨i, hi, hle, hbelow, hlast⟩ := lastWith_spec (P := fun i => decide (nth xs i ≤ x))
    (by rw [nth_of hzero]; simp) (xs.length - 2)
  rw [show xs.length - 2 + 1 = xs.length - 1 by omega] at hi
  obtain ⟨lo, hlo⟩ : ∃ lo, xs[i]? = some lo := ⟨_, List.getElem?_eq_getElem (by omega)⟩
  obtain ⟨up, hup⟩ : ∃ up, xs[i + 1]? = some up := ⟨_, List.getElem?_eq_getElem (by omega)⟩
  have hcell : cell xs x = (i, (x - lo) * 65536 / (up - lo)) := by
    simp only [cell, if_neg (show ¬ xs.length ≤ 1 by omega), hi, nth_of hlo, nth_of hup]
  rw [decide_eq_true_eq, nth_of hlo] at hbelow
  have htop : i + 2 = xs.length ∧ up = 65535 ∨ (i + 1 ≤ xs.length - 2 ∧ up < 65535) := by
    rcases Nat.lt_or_ge (i + 1) (xs.length - 1) with hk | hk
    · exact .inr ⟨by omega, pairwise_get h.rising hup h.get_last hk⟩
    · have hlastget := h.get_last
      rw [show xs.length - 1 = i + 1 by omega, hup] at hlastget
      exact .inl ⟨by omega, Option.some.inj hlastget⟩
  refine ⟨i, lo, up, hcell, hlo, hup, hbelow, pairwise_get h.rising hlo hup (by omega), by omega, ?_⟩
  rcases htop with ⟨hend, rfl⟩ | ⟨hk, -⟩
  · omega
  · have habove := hlast (i + 1) (by omega) hk
    rw [decide_eq_false_iff_not, nth_of hup] at habove
    omega

/-- The fraction of a cell, truncated. -/
theorem fraction_spec {lo hi x : Nat} (hlo : lo ≤ x) (hlt : lo < hi) (hx : x ≤ hi) :
    (x - lo) * 65536 / (hi - lo) * (hi - lo) ≤ (x - lo) * 65536 ∧
    (x - lo) * 65536 < ((x - lo) * 65536 / (hi - lo) + 1) * (hi - lo) ∧
    (x - lo) * 65536 / (hi - lo) ≤ 65536 ∧ ((x - lo) * 65536 / (hi - lo) = 65536 ↔ x = hi) := by
  have hpos : 0 < hi - lo := by omega
  have hle := Nat.div_mul_le_self ((x - lo) * 65536) (hi - lo)
  have hgt : (x - lo) * 65536 < ((x - lo) * 65536 / (hi - lo) + 1) * (hi - lo) := by
    rw [Nat.mul_comm _ (hi - lo)]
    exact Nat.lt_mul_div_succ _ hpos
  refine ⟨hle, hgt, Nat.div_le_of_le_mul (by omega), fun h => ?_, fun h => ?_⟩
  · rw [h] at hle
    omega
  · rw [h, Nat.mul_comm, Nat.mul_div_cancel _ hpos]

/-- A list of one position is one cell, with no way across it. -/
theorem cell_short {xs : List Nat} (h : xs.length ≤ 1) (x : Nat) : cell xs x = (0, 0) := if_pos h

/-! ## Weighted means (R60, R61, R66) -/

/-- The two nodes of a cell with their weights, the upper one of a one-position list with no weight. -/
def cornerWeights (c : Nat × Nat) : List (Nat × Int) := [(c.1, 65536 - (c.2 : Int)), (c.1 + 1, (c.2 : Int))]

/-- A node of no weight adds nothing, so a sum over corners is one over the cell's nodes. -/
theorem sum_cellCorners (xs : List Nat) (x : Nat) {F : Nat × Int → Int} (h : ∀ i, F (i, 0) = 0) :
    ((cellCorners xs x).map F).sum = ((cornerWeights (cell xs x)).map F).sum := by
  by_cases hl : xs.length ≤ 1
  · simp [cellCorners, cornerWeights, cell_short hl, h]
  · simp [cellCorners, cornerWeights, upperNode, hl]

theorem sum_flatMap {α : Type} (l : List α) (f : α → List Int) :
    (l.flatMap f).sum = (l.map fun y => (f y).sum).sum := by
  rw [List.flatMap_def, List.sum_flatten, List.map_map]
  rfl

/-- What a corner adds to a breathing value, and to a shading coefficient. -/
def breathingTerm (p : List Word) (k : Nat) (x y : Nat × Int) : Int :=
  x.2 * y.2 * breathingNode p (y.1 * profNub p + x.1) k
def shadingTerm (p : List Word) (k : Nat) (x y w : Nat × Int) : Int :=
  x.2 * y.2 * w.2 * shadingNode p ((w.1 * profNz p + y.1) * profNuv p + x.1) k

theorem breathingAt_eq (p : List Word) (k u z : Nat) : breathingAt p k u z =
    roundDiv ((cornerWeights (cell (profZoom p) z)).map fun y =>
      ((cornerWeights (cell (profBreathingFocus p) u)).map fun x => breathingTerm p k x y).sum).sum (2 ^ 32) := by
  have hin : ∀ y, ((cellCorners (profBreathingFocus p) u).map fun x => breathingTerm p k x y).sum =
      ((cornerWeights (cell (profBreathingFocus p) u)).map fun x => breathingTerm p k x y).sum := fun y =>
    sum_cellCorners _ _ (by simp [breathingTerm])
  have hout := sum_cellCorners (profZoom p) z
    (F := fun y => ((cornerWeights (cell (profBreathingFocus p) u)).map fun x => breathingTerm p k x y).sum)
    (by simp [cornerWeights, breathingTerm])
  have hflat : breathingAt p k u z = roundDiv ((cellCorners (profZoom p) z).map fun y =>
      ((cellCorners (profBreathingFocus p) u).map fun x => breathingTerm p k x y).sum).sum (2 ^ 32) := by
    rw [breathingAt, sum_flatMap]
    rfl
  rw [hflat]
  simp only [hin]
  rw [hout]

theorem shadingAt_eq (p : List Word) (k u z a : Nat) : shadingAt p k u z a =
    roundDiv ((cornerWeights (cell (profIris p) a)).map fun w =>
      ((cornerWeights (cell (profZoom p) z)).map fun y =>
        ((cornerWeights (cell (profShadingFocus p) u)).map fun x => shadingTerm p k x y w).sum).sum).sum (2 ^ 48) := by
  have hin : ∀ w y, ((cellCorners (profShadingFocus p) u).map fun x => shadingTerm p k x y w).sum =
      ((cornerWeights (cell (profShadingFocus p) u)).map fun x => shadingTerm p k x y w).sum := fun w y =>
    sum_cellCorners _ _ (by simp [shadingTerm])
  have hmid := fun w => sum_cellCorners (profZoom p) z
    (F := fun y => ((cornerWeights (cell (profShadingFocus p) u)).map fun x => shadingTerm p k x y w).sum)
    (by simp [cornerWeights, shadingTerm])
  have hout := sum_cellCorners (profIris p) a
    (F := fun w => ((cornerWeights (cell (profZoom p) z)).map fun y =>
      ((cornerWeights (cell (profShadingFocus p) u)).map fun x => shadingTerm p k x y w).sum).sum)
    (by simp [cornerWeights, shadingTerm])
  have hflat : shadingAt p k u z a = roundDiv ((cellCorners (profIris p) a).map fun w =>
      ((cellCorners (profZoom p) z).map fun y =>
        ((cellCorners (profShadingFocus p) u).map fun x => shadingTerm p k x y w).sum).sum).sum (2 ^ 48) := by
    simp only [shadingAt, sum_flatMap]
    rfl
  rw [hflat]
  simp only [hin]
  simp only [hmid]
  rw [hout]

theorem breathingAt_roundsTo (p : List Word) (k u z : Nat) :
    RoundsTo ((cornerWeights (cell (profZoom p) z)).map fun y =>
      ((cornerWeights (cell (profBreathingFocus p) u)).map fun x => breathingTerm p k x y).sum).sum (2 ^ 32)
      (breathingAt p k u z) := by
  rw [breathingAt_eq]
  exact roundDiv_roundsTo _ (by decide)

theorem shadingAt_roundsTo (p : List Word) (k u z a : Nat) :
    RoundsTo ((cornerWeights (cell (profIris p) a)).map fun w =>
      ((cornerWeights (cell (profZoom p) z)).map fun y =>
        ((cornerWeights (cell (profShadingFocus p) u)).map fun x => shadingTerm p k x y w).sum).sum).sum (2 ^ 48)
      (shadingAt p k u z a) := by
  rw [shadingAt_eq]
  exact roundDiv_roundsTo _ (by decide)

/-! ## Stage 4 (R61 to R65) -/

theorem stage4_off {c : Settings} (p : List Word) (u z : Nat) (h : c.breathingOn = false) :
    stage4 c p u z = Breathing.unity := if_neg (by rw [h]; exact nofun)

theorem stage4_on {c : Settings} (p : List Word) (u z : Nat) (h : c.breathingOn = true) (hs : 4194304 ≤ c.scaleMax) :
    ∃ x y hx hy, x = rawScale c.headroom (breathingAt p 0 c.lockCoord z) (breathingAt p 0 u z) ∧
      y = rawScale c.headroom (breathingAt p 1 c.lockCoord z) (breathingAt p 1 u z) ∧
      hx = breathingAt p 2 c.lockCoord z - breathingAt p 2 u z ∧
      hy = breathingAt p 3 c.lockCoord z - breathingAt p 3 u z ∧
      stage4 c p u z =
        { sx := max 4194304 (min (c.scaleMax : Int) x), sy := max 4194304 (min (c.scaleMax : Int) y)
          shx := max (-(c.shiftMax : Int)) (min (c.shiftMax : Int) hx)
          shy := max (-(c.shiftMax : Int)) (min (c.shiftMax : Int) hy)
          scaleLimit := max 4194304 (min (c.scaleMax : Int) x) != x || max 4194304 (min (c.scaleMax : Int) y) != y
          shiftLimit := max (-(c.shiftMax : Int)) (min (c.shiftMax : Int) hx) != hx ||
            max (-(c.shiftMax : Int)) (min (c.shiftMax : Int) hy) != hy } := by
  refine ⟨_, _, _, _, rfl, rfl, rfl, rfl, ?_⟩
  have hscale : ∀ v, clamp Config.unityScale c.scaleMax v = max 4194304 (min (c.scaleMax : Int) v) :=
    clamp_eq (by simpa [Config.unityScale] using hs)
  have hshift : ∀ v, clamp (-c.shiftMax) c.shiftMax v = max (-(c.shiftMax : Int)) (min (c.shiftMax : Int) v) :=
    clamp_eq (by omega)
  unfold stage4
  rw [if_pos h]
  simp only [hscale, hshift, Int.neg_sub]

theorem differs_iff (a b c d : Int) : (a != b || c != d) = true ↔ a ≠ b ∨ c ≠ d := by
  rw [Bool.or_eq_true, bne_iff_ne, bne_iff_ne]

/-! ## Stage 5 (R66 to R69) -/

theorem strengthScaled_roundsTo (sigma : Nat) (k : Int) : RoundsTo (k * sigma) 256 (strengthScaled sigma k) :=
  roundDiv_roundsTo _ (by decide)

theorem stage5_off {c : Settings} (p : List Word) (u z a : Nat) (h : c.shadingOn = false ∨ c.shadingStrength = 0) :
    stage5 c p u z a = (0, 0, 0, false) := by
  refine if_neg fun k => ?_
  rcases h with h | h
  · rw [h] at k; cases k.1
  · exact k.2 h

theorem stage5_on {c : Settings} (p : List Word) (u z a : Nat) (h : c.shadingOn = true) (hs : c.shadingStrength ≠ 0) :
    stage5 c p u z a = gainCeiling c.gainMax (strengthScaled c.shadingStrength (shadingAt p 0 u z a))
      (strengthScaled c.shadingStrength (shadingAt p 1 u z a))
      (strengthScaled c.shadingStrength (shadingAt p 2 u z a)) := if_pos ⟨h, hs⟩

theorem gainCeiling_under {gmax : Nat} {x y w : Int} (h : x + y + w ≤ (gmax : Int) - 4096) :
    gainCeiling gmax x y w = (x, y, w, false) := if_pos (by omega)

theorem gainCeiling_over {gmax : Nat} {x y w : Int} (h : (gmax : Int) - 4096 < x + y + w) : gainCeiling gmax x y w =
    (x * ((gmax : Int) - 4096) / (x + y + w), y * ((gmax : Int) - 4096) / (x + y + w),
      w * ((gmax : Int) - 4096) / (x + y + w), true) := if_neg (by omega)

/-- A quotient rounded down. -/
theorem floored_spec (n : Int) {e : Int} (h : 0 < e) : n / e * e ≤ n ∧ n < (n / e + 1) * e :=
  ⟨Int.ediv_mul_le n (by omega), Int.lt_ediv_add_one_mul_self n h⟩

/-- The rescaled coefficients leave the corner gain at its ceiling or below. -/
theorem gainCeiling_le {gmax : Nat} (hg : 4096 ≤ gmax) (x y w : Int) :
    4096 + (gainCeiling gmax x y w).1 + (gainCeiling gmax x y w).2.1 + (gainCeiling gmax x y w).2.2.1 ≤ gmax := by
  rcases lt_or_ge ((gmax : Int) - 4096) (x + y + w) with h | h
  · have he : 0 < x + y + w := by omega
    rw [gainCeiling_over h]
    have hx := (floored_spec (x * ((gmax : Int) - 4096)) he).1
    have hy := (floored_spec (y * ((gmax : Int) - 4096)) he).1
    have hw := (floored_spec (w * ((gmax : Int) - 4096)) he).1
    dsimp only
    generalize x * ((gmax : Int) - 4096) / (x + y + w) = k1 at *
    generalize y * ((gmax : Int) - 4096) / (x + y + w) = k2 at *
    generalize w * ((gmax : Int) - 4096) / (x + y + w) = k3 at *
    have hsum : (k1 + k2 + k3) * (x + y + w) ≤ ((gmax : Int) - 4096) * (x + y + w) := by linarith
    have := le_of_mul_le_mul_right hsum he
    omega
  · rw [gainCeiling_under h]
    dsimp only
    omega

/-! ## Identity bands (R70) -/

theorem isIdentity_iff (s : Snapshot) : isIdentity s = true ↔ s.profile ≠ .ready ∨ s.mount = .absent := by
  rw [isIdentity, Bool.or_eq_true, bne_iff_ne, beq_iff_eq]

theorem breathingStage_identity {s : Snapshot} (ts te : Time) (h : isIdentity s = true) :
    breathingStage s ts te = Breathing.unity := if_pos h

theorem shadingStage_identity {s : Snapshot} (ts te : Time) (h : isIdentity s = true) :
    shadingStage s ts te = (0, 0, 0, false) := if_pos h

theorem breathingStage_ready {s : Snapshot} (ts te : Time) (h : isIdentity s = false) :
    breathingStage s ts te = stage4 s.settings s.store (computeBand s ts te).u (computeBand s ts te).z :=
  if_neg (by rw [h]; exact nofun)

theorem shadingStage_ready {s : Snapshot} (ts te : Time) (h : isIdentity s = false) : shadingStage s ts te =
    stage5 s.settings s.store (computeBand s ts te).u (computeBand s ts te).z (computeBand s ts te).a :=
  if_neg (by rw [h]; exact nofun)

theorem computeBand_scales {s : Snapshot} {ts te : Time} {b : Breathing} (h : breathingStage s ts te = b) :
    (computeBand s ts te).sx = b.sx ∧ (computeBand s ts te).sy = b.sy ∧ (computeBand s ts te).shx = b.shx ∧
    (computeBand s ts te).shy = b.shy ∧ (computeBand s ts te).flags.scaleLimit = b.scaleLimit ∧
    (computeBand s ts te).flags.shiftLimit = b.shiftLimit := by
  subst h
  exact ⟨rfl, rfl, rfl, rfl, rfl, rfl⟩

theorem computeBand_gains {s : Snapshot} {ts te : Time} {g : Int × Int × Int × Bool} (h : shadingStage s ts te = g) :
    (computeBand s ts te).k1 = g.1 ∧ (computeBand s ts te).k2 = g.2.1 ∧ (computeBand s ts te).k3 = g.2.2.1 ∧
    (computeBand s ts te).flags.gainLimit = g.2.2.2 := by
  subst h
  exact ⟨rfl, rfl, rfl, rfl⟩

/-- The limits of stage 4's values. -/
def Breathing.Within (b : Breathing) (c : Settings) : Prop :=
  4194304 ≤ b.sx ∧ b.sx ≤ c.scaleMax ∧ 4194304 ≤ b.sy ∧ b.sy ≤ c.scaleMax ∧
  -(c.shiftMax : Int) ≤ b.shx ∧ b.shx ≤ c.shiftMax ∧ -(c.shiftMax : Int) ≤ b.shy ∧ b.shy ≤ c.shiftMax

theorem unity_within {c : Settings} (h : 4194304 ≤ c.scaleMax) : Breathing.unity.Within c := by
  simp only [Breathing.Within, Breathing.unity, Config.unityScale]
  omega

theorem stage4_within {c : Settings} (p : List Word) (u z : Nat) (h : 4194304 ≤ c.scaleMax) :
    (stage4 c p u z).Within c := by
  cases hb : c.breathingOn
  · rw [stage4_off p u z hb]
    exact unity_within h
  · obtain ⟨x, y, hx, hy, -, -, -, -, hst⟩ := stage4_on p u z hb h
    rw [hst]
    simp only [Breathing.Within]
    omega

theorem breathingStage_within {s : Snapshot} (ts te : Time) (h : 4194304 ≤ s.settings.scaleMax) :
    (breathingStage s ts te).Within s.settings := by
  cases hi : isIdentity s
  · rw [breathingStage_ready ts te hi]
    exact stage4_within _ _ _ h
  · rw [breathingStage_identity ts te hi]
    exact unity_within h

theorem shadingStage_le {s : Snapshot} (ts te : Time) (h : 4096 ≤ s.settings.gainMax) :
    4096 + (shadingStage s ts te).1 + (shadingStage s ts te).2.1 + (shadingStage s ts te).2.2.1 ≤ s.settings.gainMax := by
  have hnone : 4096 + (0 : Int) + 0 + 0 ≤ s.settings.gainMax := by omega
  cases hi : isIdentity s
  · rw [shadingStage_ready ts te hi]
    by_cases hon : s.settings.shadingOn = true ∧ s.settings.shadingStrength ≠ 0
    · rw [stage5_on _ _ _ _ hon.1 hon.2]
      exact gainCeiling_le h _ _ _
    · rw [stage5_off _ _ _ _ (by simpa [or_iff_not_imp_left] using hon)]
      exact hnone
  · rw [shadingStage_identity ts te hi]
    exact hnone

/-- Settles O60: the bounds are stage 4's and stage 5's, an identity band has neither. -/
theorem bandRecordBounds : Obligations.BandRecordBounds := by
  intro p ts te r
  refine ⟨fun hs hg => ?_, isIdentity_iff p, fun hi => ?_, ?_, rfl⟩
  · obtain ⟨h1, h2, h3, h4, h5, h6, h7, h8⟩ := breathingStage_within ts te hs
    exact ⟨h1, h2, h3, h4, h5, h6, h7, h8, shadingStage_le ts te hg⟩
  · obtain ⟨hsx, hsy, hshx, hshy, hsl, hhl⟩ := computeBand_scales (breathingStage_identity ts te hi)
    obtain ⟨h1, h2, h3, hgl⟩ := computeBand_gains (shadingStage_identity ts te hi)
    exact ⟨hsx, hsy, hshx, hshy, h1, h2, h3, hsl, hhl, hgl⟩
  · simp only [r, computeBand_eq, Bool.or_eq_true, or_assoc]

/-- Settles O59: a cell and its fraction, the two weighted means, and what stages 4 and 5 make of them. -/
theorem cellsBreathingAndShading : Obligations.CellsBreathingAndShading := by
  refine ⟨fun xs x hrise hfirst hlast hx => ?_, fun x => rfl, ?_, fun p ts te hready hpresent => ?_⟩
  · obtain ⟨i, lo, hi, hcell, hlo, hhi, hle, hlt, htop, hend⟩ := NodePositions.cell_index ⟨hrise, hfirst, hlast⟩ x hx
    obtain ⟨hfloor, hceil, hmost, hone⟩ := fraction_spec hle hlt (by omega)
    exact ⟨i, _, lo, hi, hcell, hlo, hhi, hle, by omega, hfloor, hceil, hmost, hone.trans (by omega)⟩
  · intro p k n u z a word lists i v j m weights breathing shading
    exact ⟨rfl, rfl, breathingAt_roundsTo p k u z, shadingAt_roundsTo p k u z a⟩
  · intro r c at' held shift e
    have hid : isIdentity p = false := by
      rw [← Bool.not_eq_true, isIdentity_iff, hready, hpresent]
      exact not_or.2 ⟨fun h => h rfl, nofun⟩
    have hb := breathingStage_ready ts te hid
    have hs := shadingStage_ready ts te hid
    refine ⟨fun hoff => computeBand_scales (hb.trans (stage4_off _ _ _ hoff)), fun hon hmax hx hy => ?_,
      fun hoff => computeBand_gains (hs.trans (stage5_off _ _ _ _ hoff)), fun hon hstrength hg => ?_⟩
    · obtain ⟨x, y, dx, dy, rfl, rfl, rfl, rfl, hst⟩ := stage4_on p.store r.u r.z hon hmax
      obtain ⟨hsx, hsy, hshx, hshy, hsl, hhl⟩ := computeBand_scales (hb.trans hst)
      refine ⟨⟨_, _, roundDiv_roundsTo _ hx, roundDiv_roundsTo _ hy, hsx, hsy, ?_⟩, hshx, hshy, ?_⟩
      · rw [hsl, hsx, hsy]
        exact differs_iff _ _ _ _
      · rw [hhl, hshx, hshy]
        exact differs_iff _ _ _ _
    · refine ⟨_, _, _, strengthScaled_roundsTo _ _, strengthScaled_roundsTo _ _, strengthScaled_roundsTo _ _,
        fun hle => ?_, fun hgt => ?_⟩
      · obtain ⟨h1, h2, h3, h4⟩ :=
          computeBand_gains ((hs.trans (stage5_on _ _ _ _ hon hstrength)).trans (gainCeiling_under hle))
        dsimp only at h1 h2 h3
        exact ⟨h1, h2, h3, h4⟩
      · obtain ⟨h1, h2, h3, h4⟩ :=
          computeBand_gains ((hs.trans (stage5_on _ _ _ _ hon hstrength)).trans (gainCeiling_over hgt))
        have hpos := lt_of_le_of_lt (show 0 ≤ (c.gainMax : Int) - 4096 by omega) hgt
        rw [h1, h2, h3, h4]
        exact ⟨floored_spec _ hpos, floored_spec _ hpos, floored_spec _ hpos, rfl⟩

end Sys2Proof.Machine

/-! PROOFS. The exposure-mean focus: settles O57. -/

namespace Sys2Proof.Machine

/-! ## The two newest samples (R49) -/

theorem newestPair_of_get {track : List (Int × Int)} {k : Nat} {a b : Int × Int} (hlen : track.length = k + 2)
    (ha : track[k]? = some a) (hb : track[k + 1]? = some b) : newestPair track = some (a, b) := by
  induction track generalizing k with
  | nil => cases ha
  | cons x track ih =>
    match k, track with
    | 0, [y] => cases ha; cases hb; rfl
    | k + 1, y :: z :: rest => exact ih (k := k) (by simpa using hlen) ha hb

theorem newestPair_short {track : List (Int × Int)} (h : track.length < 2) : newestPair track = none := by
  match track, h with
  | [], _ => rfl
  | [_], _ => rfl

/-- A track of several samples has a pair of newest ones, at its end. -/
theorem newestPair_several {track : List (Int × Int)} (h : 2 ≤ track.length) : ∃ k a b, track.length = k + 2 ∧
    track[k]? = some a ∧ track[k + 1]? = some b ∧ track.getLast? = some b ∧ newestPair track = some (a, b) := by
  obtain ⟨k, hk⟩ : ∃ k, track.length = k + 2 := ⟨track.length - 2, by omega⟩
  have ha : track[k]? = some track[k] := List.getElem?_eq_getElem (by omega)
  have hb : track[k + 1]? = some track[k + 1] := List.getElem?_eq_getElem (by omega)
  refine ⟨k, _, _, hk, ha, hb, ?_, newestPair_of_get hk ha hb⟩
  rw [List.getLast?_eq_getElem?, show track.length - 1 = k + 1 by omega, hb]

/-! ## A track in rising time (R27, R49) -/

/-- A track: rising times, positions of 24 bits. -/
structure Rising (track : List (Int × Int)) : Prop where
  times : (track.map Prod.fst).Pairwise (· < ·)
  range : ∀ x ∈ track, -8388608 ≤ x.2 ∧ x.2 ≤ 8388607

theorem Rising.tail {x : Int × Int} {track : List (Int × Int)} (h : Rising (x :: track)) : Rising track :=
  ⟨(List.pairwise_cons.1 h.times).2, fun y hy => h.range y (List.mem_cons_of_mem _ hy)⟩

theorem Rising.lt {track : List (Int × Int)} (h : Rising track) {i j : Nat} {x y : Int × Int} (hi : track[i]? = some x)
    (hj : track[j]? = some y) (hij : i < j) : x.1 < y.1 := counts_get h.times hi hj hij

theorem Rising.le {track : List (Int × Int)} (h : Rising track) {i j : Nat} {x y : Int × Int} (hi : track[i]? = some x)
    (hj : track[j]? = some y) (hij : i ≤ j) : x.1 ≤ y.1 := by
  rcases Nat.eq_or_lt_of_le hij with rfl | hlt
  · rw [Option.some.inj (hi.symm.trans hj)]
  · exact le_of_lt (h.lt hi hj hlt)

theorem Rising.within {track : List (Int × Int)} (h : Rising track) {i : Nat} {x : Int × Int} (hi : track[i]? = some x) :
    -8388608 ≤ x.2 ∧ x.2 ≤ 8388607 := h.range x (List.mem_of_getElem? hi)

/-! ## The focus curve (R49, R50) -/

/-- `q` is the line through two samples at a time, rounded. -/
def OnLine (a b : Int × Int) (t q : Int) : Prop :=
  RoundsTo (a.2 * (b.1 - a.1) + (b.2 - a.2) * (t - a.1)) (b.1 - a.1) q

theorem lineAt_onLine {a b : Int × Int} (h : a.1 < b.1) (t : Int) : OnLine a b t (lineAt a b t) :=
  roundDiv_roundsTo _ (by omega)

theorem OnLine.start {a b : Int × Int} {q : Int} (hq : OnLine a b a.1 q) (h : a.1 < b.1) : q = a.2 :=
  RoundsTo.of_mul (d := b.1 - a.1) (by simpa [OnLine] using hq) (by omega)

theorem OnLine.stop {a b : Int × Int} {q : Int} (hq : OnLine a b b.1 q) (h : a.1 < b.1) : q = b.2 := by
  refine RoundsTo.of_mul (d := b.1 - a.1) ?_ (by omega)
  have hsum : a.2 * (b.1 - a.1) + (b.2 - a.2) * (b.1 - a.1) = b.2 * (b.1 - a.1) := by ring
  rw [← hsum]
  exact hq

theorem onLine_start {a b : Int × Int} (h : a.1 < b.1) : OnLine a b a.1 a.2 := by
  have hq := lineAt_onLine h a.1
  rwa [hq.start h] at hq

/-- Between two samples the line keeps to the range of positions. -/
theorem OnLine.within {a b : Int × Int} {t q lo hi : Int} (hq : OnLine a b t q) (h : a.1 < b.1) (h1 : a.1 ≤ t)
    (h2 : t ≤ b.1) (ha : lo ≤ a.2 ∧ a.2 ≤ hi) (hb : lo ≤ b.2 ∧ b.2 ≤ hi) : lo ≤ q ∧ q ≤ hi := by
  have hweights : a.2 * (b.1 - a.1) + (b.2 - a.2) * (t - a.1) = a.2 * (b.1 - t) + b.2 * (t - a.1) := by ring
  have hsplit : ∀ v : Int, v * (b.1 - a.1) = v * (b.1 - t) + v * (t - a.1) := fun v => by ring
  have hle : ∀ {v w : Int} {d : Int}, v ≤ w → 0 ≤ d → v * d ≤ w * d := fun hv hd => Int.mul_le_mul_of_nonneg_right hv hd
  unfold OnLine at hq
  rw [hweights] at hq
  refine ⟨hq.ge (by omega) ?_, hq.le (by omega) ?_⟩
  · rw [hsplit]
    exact Int.add_le_add (hle ha.1 (by omega)) (hle hb.1 (by omega))
  · rw [hsplit]
    exact Int.add_le_add (hle ha.2 (by omega)) (hle hb.2 (by omega))

/-- The segment found first is on the line of every segment that encloses the time. -/
theorem segmentAt_onLine {track : List (Int × Int)} (htr : Rising track) {k : Nat} {a b : Int × Int} {t : Int}
    (ha : track[k]? = some a) (hb : track[k + 1]? = some b) (h1 : a.1 ≤ t) (h2 : t ≤ b.1) :
    OnLine a b t (segmentAt track t) := by
  induction track generalizing k with
  | nil => cases ha
  | cons x track ih =>
    match track with
    | [] => cases k <;> cases hb
    | y :: rest =>
      have hxy : x.1 < y.1 := htr.lt (i := 0) (j := 1) rfl rfl (by omega)
      by_cases hfirst : t ≤ y.1
      · have hseg : segmentAt (x :: y :: rest) t = lineAt x y t := if_pos hfirst
        rw [hseg]
        cases k with
        | zero =>
          cases ha; cases hb
          exact lineAt_onLine hxy t
        | succ k =>
          have hya : y.1 ≤ a.1 := htr.le (i := 1) rfl ha (by omega)
          have hk : k = 0 := by
            by_contra hk
            have := htr.lt (i := 1) (j := k + 1) (x := y) rfl ha (by omega)
            omega
          subst hk
          have hab : a.1 < b.1 := htr.lt ha hb (by omega)
          cases ha
          obtain rfl : t = a.1 := by omega
          rw [(lineAt_onLine hxy a.1).stop hxy]
          exact onLine_start hab
      · have hseg : segmentAt (x :: y :: rest) t = segmentAt (y :: rest) t := if_neg hfirst
        rw [hseg]
        cases k with
        | zero =>
          cases ha; cases hb
          exact absurd h2 hfirst
        | succ k => exact ih htr.tail ha hb

theorem focusAt_within (track : List (Int × Int)) (xmax t : Int) :
    -8388608 ≤ focusAt track xmax t ∧ focusAt track xmax t ≤ 8388607 := clamp_within (by decide) _

theorem focusAt_single (x : Int × Int) (xmax t : Int) (h : -8388608 ≤ x.2 ∧ x.2 ≤ 8388607) :
    focusAt [x] xmax t = x.2 := clamp_inside h.1 h.2

section
variable {track : List (Int × Int)} (htr : Rising track) {x m n : Int × Int} (hx : track.head? = some x)
  (hp : newestPair track = some (m, n))
include hx hp

theorem focusAt_early (xmax : Int) {t : Int} (h : t < x.1) :
    focusAt track xmax t = clamp (-8388608) 8388607 x.2 := by
  simp only [focusAt, hx, hp, if_pos h]

theorem focusAt_late {xmax t : Int} (h1 : x.1 ≤ t) (h2 : n.1 < t) :
    focusAt track xmax t = clamp (-8388608) 8388607 (lineAt m n (min t (n.1 + xmax))) := by
  simp only [focusAt, hx, hp, if_neg (Int.not_lt.2 h1), if_pos h2]

theorem focusAt_inside (xmax : Int) {t : Int} (h1 : x.1 ≤ t) (h2 : t ≤ n.1) :
    focusAt track xmax t = clamp (-8388608) 8388607 (segmentAt track t) := by
  simp only [focusAt, hx, hp, if_neg (Int.not_lt.2 h1), if_neg (Int.not_lt.2 h2)]

end

/-- Between two samples the curve is their line. -/
theorem focusAt_onLine {track : List (Int × Int)} (htr : Rising track) (xmax : Int) {k : Nat} {a b : Int × Int} {t : Int}
    (ha : track[k]? = some a) (hb : track[k + 1]? = some b) (h1 : a.1 ≤ t) (h2 : t ≤ b.1) :
    OnLine a b t (focusAt track xmax t) := by
  have hlen : 2 ≤ track.length := by
    have := (List.getElem?_eq_some_iff.1 hb).1
    omega
  obtain ⟨j, m, n, hj, -, hn, -, hp⟩ := newestPair_several hlen
  obtain ⟨x, hx⟩ : ∃ x, track[0]? = some x := ⟨_, List.getElem?_eq_getElem (by omega)⟩
  have hxa := htr.le hx ha (by omega)
  have hbn := htr.le hb hn (by have := (List.getElem?_eq_some_iff.1 hb).1; omega)
  have hline := segmentAt_onLine htr ha hb h1 h2
  obtain ⟨hlo, hhi⟩ := hline.within (htr.lt ha hb (by omega)) h1 h2 (htr.within ha) (htr.within hb)
  rw [focusAt_inside (by rw [List.head?_eq_getElem?, hx]) hp xmax (by omega) (by omega), clamp_inside hlo hhi]
  exact hline

/-- Up to the oldest sample the curve is constant. -/
theorem focusAt_upTo {track : List (Int × Int)} (htr : Rising track) (xmax : Int) {x : Int × Int} {t : Int}
    (hx : track.head? = some x) (ht : t ≤ x.1) : focusAt track xmax t = x.2 := by
  rw [List.head?_eq_getElem?] at hx
  obtain ⟨hlo, hhi⟩ := htr.within hx
  rcases Nat.lt_or_ge track.length 2 with hlen | hlen
  · match track, hlen, hx with
    | [_], _, hx => cases hx; exact focusAt_single x xmax t ⟨hlo, hhi⟩
  · obtain ⟨j, m, n, hj, -, hn, -, hp⟩ := newestPair_several hlen
    rcases lt_or_eq_of_le ht with hlt | rfl
    · rw [focusAt_early (by rw [List.head?_eq_getElem?, hx]) hp xmax hlt, clamp_inside hlo hhi]
    · obtain ⟨y, hy⟩ : ∃ y, track[1]? = some y := ⟨_, List.getElem?_eq_getElem (by omega)⟩
      have hxy := htr.lt hx hy (by omega)
      exact (focusAt_onLine htr xmax hx hy le_rfl (by omega)).start hxy

/-- After the newest sample the curve follows the last two up to the limit. -/
theorem focusAt_beyond {track : List (Int × Int)} (htr : Rising track) (xmax : Int) {k : Nat} {a b : Int × Int} {t : Int}
    (hlen : track.length = k + 2) (ha : track[k]? = some a) (hb : track[k + 1]? = some b) (ht : b.1 < t) :
    ∃ q, OnLine a b (min t (b.1 + xmax)) q ∧ focusAt track xmax t = max (-8388608) (min 8388607 q) := by
  obtain ⟨x, hx⟩ : ∃ x, track[0]? = some x := ⟨_, List.getElem?_eq_getElem (by omega)⟩
  have hxb := htr.le hx hb (by omega)
  refine ⟨_, lineAt_onLine (htr.lt ha hb (by omega)) _, ?_⟩
  rw [focusAt_late (by rw [List.head?_eq_getElem?, hx]) (newestPair_of_get hlen ha hb) (by omega) ht,
    clamp_eq (by decide)]

/-! ## Breakpoints (R50) -/

/-- The samples' times strictly inside a window, and its limit point where it is one more. -/
def timesInside (track : List (Int × Int)) (w : Int) : List Int :=
  (track.map Prod.fst).filter (fun t => decide (0 < t) && decide (t < w))
def limitInside (track : List (Int × Int)) (xmax w : Int) : List Int :=
  match newestPair track with
  | some (_, n) => [n.1 + xmax].filter
      (fun t => decide (0 < t) && decide (t < w) && !(timesInside track w).contains t)
  | none => []

theorem breakpoints_eq (track : List (Int × Int)) (xmax w : Int) :
    breakpoints track xmax w = 0 :: (timesInside track w ++ limitInside track xmax w ++ [w]) := rfl

theorem mem_timesInside {track : List (Int × Int)} {w t : Int} :
    t ∈ timesInside track w ↔ (0 < t ∧ t < w) ∧ ∃ x ∈ track, x.1 = t := by
  simp only [timesInside, List.mem_filter, List.mem_map, Bool.and_eq_true, decide_eq_true_eq]
  exact and_comm

theorem mem_limitInside {track : List (Int × Int)} {xmax w t : Int} : t ∈ limitInside track xmax w ↔
    (2 ≤ track.length ∧ ∃ x, track.getLast? = some x ∧ t = x.1 + xmax) ∧ (0 < t ∧ t < w) ∧ t ∉ timesInside track w := by
  rcases Nat.lt_or_ge track.length 2 with hlen | hlen
  · rw [limitInside, newestPair_short hlen]
    exact ⟨nofun, fun h => absurd h.1.1 (by omega)⟩
  · obtain ⟨j, m, n, hj, -, -, hn, hp⟩ := newestPair_several hlen
    simp only [limitInside, hp, List.mem_filter, List.mem_singleton, Bool.and_eq_true, decide_eq_true_eq,
      Bool.not_eq_true', ← Bool.not_eq_true, List.contains_iff_mem, hlen, true_and, hn, Option.some.injEq,
      exists_eq_left']

theorem mem_breakpoints {track : List (Int × Int)} {xmax w t : Int} : t ∈ breakpoints track xmax w ↔
    t = 0 ∨ t = w ∨ (0 < t ∧ t < w ∧ ((∃ x ∈ track, x.1 = t) ∨
      (2 ≤ track.length ∧ ∃ x, track.getLast? = some x ∧ t = x.1 + xmax))) := by
  rw [breakpoints_eq, List.mem_cons, List.mem_append, List.mem_append, List.mem_singleton, mem_limitInside,
    mem_timesInside]
  generalize (∃ x ∈ track, x.1 = t) = sampled
  generalize (2 ≤ track.length ∧ ∃ x, track.getLast? = some x ∧ t = x.1 + xmax) = limit
  tauto

/-- The breakpoints rise: the limit point lies after every sample. -/
theorem breakpoints_rise {track : List (Int × Int)} (htr : Rising track) (xmax : Nat) {w : Int} (hw : 0 < w) :
    (breakpoints track xmax w).Pairwise (· < ·) := by
  have hinside : (timesInside track w).Pairwise (· < ·) := htr.times.filter _
  have hlimit : (limitInside track xmax w).Pairwise (· < ·) := by
    unfold limitInside
    split
    · exact (List.pairwise_singleton _ _).filter _
    · exact List.Pairwise.nil
  have hafter : ∀ s ∈ timesInside track w, ∀ t ∈ limitInside track xmax w, s < t := by
    intro s hs t ht
    obtain ⟨⟨-, y, hlast, rfl⟩, -, hnew⟩ := mem_limitInside.1 ht
    obtain ⟨-, x, hx, rfl⟩ := mem_timesInside.1 hs
    obtain ⟨i, hi⟩ := List.mem_iff_getElem?.1 hx
    rw [List.getLast?_eq_getElem?] at hlast
    have hxy := htr.le hi hlast (by have := (List.getElem?_eq_some_iff.1 hi).1; omega)
    have hne : x.1 ≠ y.1 + xmax := fun he => hnew (he ▸ hs)
    omega
  have hbetween : ∀ t ∈ timesInside track w ++ limitInside track xmax w, 0 < t ∧ t < w := by
    intro t ht
    rcases List.mem_append.1 ht with ht | ht
    · exact (mem_timesInside.1 ht).1
    · exact (mem_limitInside.1 ht).2.1
  rw [breakpoints_eq, List.pairwise_cons]
  refine ⟨fun t ht => ?_, List.pairwise_append.2 ⟨List.pairwise_append.2 ⟨hinside, hlimit, hafter⟩,
    List.pairwise_singleton _ _, fun t ht u hu => ?_⟩⟩
  · rcases List.mem_append.1 ht with ht | ht
    · exact (hbetween t ht).1
    · rwa [List.mem_singleton.1 ht]
  · rw [List.mem_singleton.1 hu]
    exact (hbetween t ht).2

/-! ## The trapezoid mean (R51) -/

theorem trapezoid_eq (f : Int → Int) (l : List Int) : trapezoid (l.map fun t => (t, f t)) =
    ((l.zip l.tail).map fun x => (x.2 - x.1) * (f x.1 + f x.2)).sum := by
  induction l with
  | nil => rfl
  | cons a l ih =>
    cases l with
    | nil => rfl
    | cons b l => exact congrArg ((b - a) * (f a + f b) + ·) ih

/-- The trapezoid sum of a curve between two bounds lies between those of the bounds. -/
theorem trapezoid_within {f : Int → Int} {lo hi : Int} (hf : ∀ t, lo ≤ f t ∧ f t ≤ hi) (a w : Int) (l : List Int)
    (h : (a :: (l ++ [w])).Pairwise (· < ·)) :
    lo * (2 * (w - a)) ≤ trapezoid ((a :: (l ++ [w])).map fun t => (t, f t)) ∧
    trapezoid ((a :: (l ++ [w])).map fun t => (t, f t)) ≤ hi * (2 * (w - a)) := by
  have hstep : ∀ b, a < b → lo * (2 * (b - a)) ≤ (b - a) * (f a + f b) ∧ (b - a) * (f a + f b) ≤ hi * (2 * (b - a)) := by
    intro b hb
    obtain ⟨ha1, ha2⟩ := hf a
    obtain ⟨hb1, hb2⟩ := hf b
    constructor <;> nlinarith
  induction l generalizing a with
  | nil =>
    obtain ⟨h1, h2⟩ := hstep w ((List.pairwise_cons.1 h).1 w (by simp))
    have hsum : trapezoid ((a :: ([] ++ [w])).map fun t => (t, f t)) = (w - a) * (f a + f w) := Int.add_zero _
    rw [hsum]
    exact ⟨h1, h2⟩
  | cons b l ih =>
    obtain ⟨hab, htail⟩ := List.pairwise_cons.1 h
    obtain ⟨h1, h2⟩ := hstep b (hab b (by simp))
    obtain ⟨h3, h4⟩ := ih b htail (fun c hc => by
      obtain ⟨hb1, hb2⟩ := hf b
      obtain ⟨hc1, hc2⟩ := hf c
      constructor <;> nlinarith)
    have hsum : trapezoid ((a :: (b :: l ++ [w])).map fun t => (t, f t)) =
        (b - a) * (f a + f b) + trapezoid ((b :: (l ++ [w])).map fun t => (t, f t)) := rfl
    rw [hsum]
    constructor <;> linarith

theorem meanFocus_roundsTo (track : List (Int × Int)) (xmax : Int) {w : Int} (hw : 0 < w) :
    RoundsTo (trapezoid ((breakpoints track xmax w).map fun t => (t, focusAt track xmax t))) (2 * w)
      (meanFocus track xmax w) := roundDiv_roundsTo _ (by omega)

theorem meanFocus_within {track : List (Int × Int)} (htr : Rising track) (xmax : Nat) {w : Int} (hw : 0 < w) :
    -8388608 ≤ meanFocus track xmax w ∧ meanFocus track xmax w ≤ 8388607 := by
  obtain ⟨hlo, hhi⟩ := trapezoid_within (focusAt_within track xmax) 0 w _ (breakpoints_rise htr xmax hw)
  have hround := meanFocus_roundsTo track xmax hw
  rw [Int.sub_zero] at hlo hhi
  exact ⟨hround.ge (by omega) hlo, hround.le (by omega) hhi⟩

/-! ## The flags of the window (R52) -/

theorem focusUsable_flags (c : Settings) {track : List (Int × Int)} (w : Int) {x y : Int × Int}
    (hx : track.head? = some x) (hy : track.getLast? = some y) :
    ((focusUsable c track w).early = true ↔ 0 < x.1) ∧
    ((focusUsable c track w).extrapolated = true ↔ 2 ≤ track.length ∧ y.1 < w ∧ w ≤ y.1 + c.extrapLimit) ∧
    ((focusUsable c track w).limited = true ↔ y.1 < w ∧ (track.length = 1 ∨ y.1 + c.extrapLimit < w)) := by
  have hlen : track.length ≠ 0 := by
    rw [Ne, List.length_eq_zero_iff]
    rintro rfl
    cases hx
  simp only [focusUsable, hx, hy, Option.map_some, Option.getD_some, Bool.and_eq_true, decide_eq_true_eq, and_assoc,
    true_and]
  by_cases hs : 2 ≤ track.length
  · simp only [hs, if_true, decide_eq_true_eq]
    omega
  · simp only [hs, if_false, decide_eq_true_eq]
    omega

/-- The focus half of a record. -/
theorem computeBand_focus {s : Snapshot} {ts te : Time} {f : FocusResult} (h : focusStage s ts te = f) :
    (computeBand s ts te).pMean = f.pMean ∧ (computeBand s ts te).u = f.u ∧
    (computeBand s ts te).flags.held = f.held ∧ (computeBand s ts te).flags.fixed = f.fixed ∧
    (computeBand s ts te).flags.extrapolated = f.extrapolated ∧ (computeBand s ts te).flags.limited = f.limited ∧
    (computeBand s ts te).flags.early = f.early ∧ (computeBand s ts te).focusUsed = f.used := by
  subst h
  exact ⟨rfl, rfl, rfl, rfl, rfl, rfl, rfl, rfl⟩

/-- Settles O57: the case of the snapshot, then the curve of a usable track. -/
theorem focusIsTheExposureMean : Obligations.FocusIsTheExposureMean := by
  refine ⟨fun p ts te => ?_, fun track xmax w hne hw htimes hrange => ?_⟩
  · intro r c samples usable unused
    refine ⟨fun h => computeBand_focus (focusStage_off ts te h), fun h => computeBand_focus (focusStage_fixed ts te h),
      fun h hu => computeBand_focus (focusStage_held ts te h hu), fun h hu => ?_⟩
    · intro since w
      obtain ⟨hmean, hu', hheld, hfixed, hextra, hlimited, hearly, hused⟩ :=
        computeBand_focus (focusStage_usable ts te h hu)
      refine ⟨hmean, ?_, ?_, hheld, hfixed, fun old new ho hn => ?_⟩
      · rw [hu', hmean]; rfl
      · rw [hused, hmean, hu']; rfl
      have hx : (samples.map (relSample ts)).head? = some (relSample ts old) := by rw [List.head?_map, ho]; rfl
      have hy : (samples.map (relSample ts)).getLast? = some (relSample ts new) := by rw [List.getLast?_map, hn]; rfl
      have hflags := focusUsable_flags c w hx hy
      rw [List.length_map] at hflags
      rw [hearly, hextra, hlimited]
      exact hflags
  · intro f times line
    have htr : Rising track := ⟨htimes, hrange⟩
    refine ⟨fun x t => focusAt_upTo htr xmax, fun x t hx => ?_, fun k a b t => focusAt_onLine htr xmax,
      fun k a b t => focusAt_beyond htr xmax, breakpoints_rise htr xmax hw, fun t => mem_breakpoints, ?_,
      meanFocus_within htr xmax hw⟩
    · subst hx
      exact focusAt_single x xmax t (hrange x (List.mem_singleton.2 rfl))
    · rw [← trapezoid_eq]
      exact meanFocus_roundsTo track xmax hw

end Sys2Proof.Machine
